-- ==== Sys2Proof/Word.lean ====
section
/-! DEFINITION. The one word type of the NC-630: the byte of its serial links (R180). -/

namespace Sys2Proof

/-- One byte of a serial link: 8 data bits (R180). -/
abbrev Byte := BitVec 8

end Sys2Proof
end

