-- ==== Sys2Proof/Config.lean ====
section
/-! DEFINITION. What one NC-630 fixes: its identity and the sizes the manual states. -/

namespace Sys2Proof.Config

/-- Part code and revision of IDENT (R192). -/
def partCode : Nat := 630
/-- Revision of IDENT (R192). -/
def revision : Nat := 3
/-- Void log size in records (R132). -/
def logSize : Nat := 1024
/-- The low flag is set when the free space falls below this (R134). -/
def lowFree : Nat := 128
/-- Remake register size in entries (R138). -/
def registerSize : Nat := 64
/-- Manifest queue size (R125). -/
def manifestSize : Nat := 8
/-- Exceptions a bundle's list holds (R117). -/
def exceptionLimit : Nat := 32
/-- Pending-void rows, as IDENT states them (R192). -/
def rowLimit : Nat := 256
/-- Ranges of the jump list, as IDENT states them (R192). -/
def jumpLimit : Nat := 256
/-- Slots of the set table's ring (R42). -/
def ringSize : Nat := 256
/-- The top value of a cue count and of a set index (R2). -/
def countTop : Nat := 4294967295
/-- Ceiling of an accounting counter (R143). -/
def counterCeiling : Nat := 99999999
/-- Request queue size (R185). -/
def requestQueueSize : Nat := 4
/-- Report queue size (R190). -/
def reportQueueSize : Nat := 32
/-- Reader pending queue size (R90). -/
def readerQueueSize : Nat := 4
/-- Outstanding loads of one head (R70). -/
def headQueueSize : Nat := 2
/-- The inter-byte gap, in ms, that a frame may not exceed (R183). -/
def gapLimit : Nat := 20

end Sys2Proof.Config
end

