-- ==== Sys2Proof/Syntax.lean ====
section
/-! DEFINITION. The commands of the NC-630: one constructor per row of spec/opcode_table.json, with the small
types their operands need. -/

namespace Sys2Proof

/-- A ply of the set, 1 to 6 (Table 2). -/
inductive Ply where
  | ply1 | ply2 | ply3 | ply4 | ply5 | ply6
  deriving DecidableEq, Repr

/-- The ply's number, 1 to 6. -/
def Ply.number : Ply → Nat
  | .ply1 => 1 | .ply2 => 2 | .ply3 => 3 | .ply4 => 4 | .ply5 => 5 | .ply6 => 6

/-- The six plies in increasing number. -/
def Ply.all : List Ply := [.ply1, .ply2, .ply3, .ply4, .ply5, .ply6]

/-- The ply of a number, if it is 1 to 6. -/
def Ply.ofNumber : Nat → Option Ply
  | 1 => some .ply1 | 2 => some .ply2 | 3 => some .ply3
  | 4 => some .ply4 | 5 => some .ply5 | 6 => some .ply6
  | _ => none

/-- One value for each ply. -/
structure PerPly (α : Type) where
  p1 : α
  p2 : α
  p3 : α
  p4 : α
  p5 : α
  p6 : α
  deriving DecidableEq, Repr

namespace PerPly
variable {α : Type}

/-- The same value for every ply. -/
def const (x : α) : PerPly α := ⟨x, x, x, x, x, x⟩

/-- The values of a function of the ply. -/
def ofFn (f : Ply → α) : PerPly α := ⟨f .ply1, f .ply2, f .ply3, f .ply4, f .ply5, f .ply6⟩

/-- The value for ply p. -/
def get (v : PerPly α) : Ply → α
  | .ply1 => v.p1 | .ply2 => v.p2 | .ply3 => v.p3 | .ply4 => v.p4 | .ply5 => v.p5 | .ply6 => v.p6

/-- The value for ply p replaced. -/
def set (v : PerPly α) (p : Ply) (x : α) : PerPly α :=
  match p with
  | .ply1 => { v with p1 := x } | .ply2 => { v with p2 := x } | .ply3 => { v with p3 := x }
  | .ply4 => { v with p4 := x } | .ply5 => { v with p5 := x } | .ply6 => { v with p6 := x }

/-- The six values, ply 1 first. -/
def toList (v : PerPly α) : List α := [v.p1, v.p2, v.p3, v.p4, v.p5, v.p6]

end PerPly

/-- The nine conditioned lines (Section 1.5). -/
inductive LineId where
  | prun | key | wbrk
  | spl (p : Ply)
  deriving DecidableEq, Repr

/-- The nine lines in the order of SET_LINES (R201). -/
def LineId.all : List LineId := [.prun, .key, .wbrk] ++ Ply.all.map LineId.spl

/-- One value for each conditioned line. -/
structure PerLine (α : Type) where
  prun : α
  key  : α
  wbrk : α
  spl  : PerPly α
  deriving DecidableEq, Repr

namespace PerLine
variable {α : Type}

/-- The same value for every line. -/
def const (x : α) : PerLine α := ⟨x, x, x, PerPly.const x⟩

/-- The values of a function of the line. -/
def ofFn (f : LineId → α) : PerLine α := ⟨f .prun, f .key, f .wbrk, PerPly.ofFn fun p => f (.spl p)⟩

/-- The value for a line. -/
def get (v : PerLine α) : LineId → α
  | .prun => v.prun | .key => v.key | .wbrk => v.wbrk | .spl p => v.spl.get p

/-- The value for a line replaced. -/
def set (v : PerLine α) (l : LineId) (x : α) : PerLine α :=
  match l with
  | .prun => { v with prun := x } | .key => { v with key := x } | .wbrk => { v with wbrk := x }
  | .spl p => { v with spl := v.spl.set p x }

end PerLine

/-- The serial links of the part on which it receives or sends (Table 4). -/
inductive LinkId where
  | control
  | head (p : Ply)
  | reader
  deriving DecidableEq, Repr

/-- The pins whose level LINE_INPUT_CHANGE gives: the inputs of the nine conditioned lines, and the strap pins FIT1 to
FIT6, BAUD1 and BAUD0, for whose change the table has no other row (Table 4, R66, R180; log entry 11). -/
inductive InputPin where
  | line (l : LineId)
  | fit (p : Ply)
  | baud1
  | baud0
  deriving DecidableEq, Repr

/-- The levels of the strap pins: FIT1 to FIT6 active or not (R66), BAUD1 and BAUD0 high or not (R180). -/
structure Straps where
  fit   : PerPly Bool
  baud1 : Bool
  baud0 : Bool
  deriving DecidableEq, Repr

/-- The requests of Table 78. -/
inductive RequestKind where
  | ident | status | reset | setLines
  | setGeometry | setScheme | setFormat | setPolicy | commit
  | start | hold | release | abort | close | jumpIf | recover | stopClear
  | rowRead | cull | headResume | readerResume | gateResume
  | manifestRead | manifestFree | logRead | logFree | remakeRead | counts
  deriving DecidableEq, Repr

/-- The commands of the block. Every request constructor is the arrival, on the control link, of a good frame of
that request's kind with this tag and payload: the frame joins the request queue (R185) and is taken in the same
step when the link may take a request, or waits (R186; log entry 2). -/
inductive Instr where
  /-- IDENT: read the part's identity (R192). -/
  | ident (tag : Byte) (payload : List Byte)
  /-- STATUS: snapshot of every block (R193). -/
  | status (tag : Byte) (payload : List Byte)
  /-- RESET: reset the part once the reply has been sent (R171). -/
  | reset (tag : Byte) (payload : List Byte)
  /-- SET_LINES: replace the line settings (R15). -/
  | setLines (tag : Byte) (payload : List Byte)
  /-- SET_GEOMETRY: replace the geometry block (R151). -/
  | setGeometry (tag : Byte) (payload : List Byte)
  /-- SET_SCHEME: replace the scheme block (R18). -/
  | setScheme (tag : Byte) (payload : List Byte)
  /-- SET_FORMAT: replace one ply's print format (R38). -/
  | setFormat (tag : Byte) (payload : List Byte)
  /-- SET_POLICY: replace the policy block (R152). -/
  | setPolicy (tag : Byte) (payload : List Byte)
  /-- COMMIT: check the definition and load the job (R154). -/
  | commit (tag : Byte) (payload : List Byte)
  /-- START: begin a run (R155, R156). -/
  | start (tag : Byte) (payload : List Byte)
  /-- HOLD: raise hold cause HOST (R158). -/
  | hold (tag : Byte) (payload : List Byte)
  /-- RELEASE: return from HOLD (R159). -/
  | release (tag : Byte) (payload : List Byte)
  /-- ABORT: end a job before its end (R162). -/
  | abort (tag : Byte) (payload : List Byte)
  /-- CLOSE: close a finished job (R164). -/
  | close (tag : Byte) (payload : List Byte)
  /-- JUMP_IF: move the stream forward (R165). -/
  | jumpIf (tag : Byte) (payload : List Byte)
  /-- RECOVER: dispose of the numbers in doubt (R175). -/
  | recover (tag : Byte) (payload : List Byte)
  /-- STOP_CLEAR: clear latched stop causes (R167). -/
  | stopClear (tag : Byte) (payload : List Byte)
  /-- ROW_READ: read one set (R59). -/
  | rowRead (tag : Byte) (payload : List Byte)
  /-- CULL: mark sets for the gate (R60). -/
  | cull (tag : Byte) (payload : List Byte)
  /-- HEAD_RESUME: return a head channel to service (R82). -/
  | headResume (tag : Byte) (payload : List Byte)
  /-- READER_RESUME: return the reader to service (R102). -/
  | readerResume (tag : Byte) (payload : List Byte)
  /-- GATE_RESUME: bring the gate station into step (R116). -/
  | gateResume (tag : Byte) (payload : List Byte)
  /-- MANIFEST_READ: read manifests (R126). -/
  | manifestRead (tag : Byte) (payload : List Byte)
  /-- MANIFEST_FREE: free manifests (R127). -/
  | manifestFree (tag : Byte) (payload : List Byte)
  /-- LOG_READ: read void records (R135). -/
  | logRead (tag : Byte) (payload : List Byte)
  /-- LOG_FREE: free void records (R136). -/
  | logFree (tag : Byte) (payload : List Byte)
  /-- REMAKE_READ: read register entries (R142). -/
  | remakeRead (tag : Byte) (payload : List Byte)
  /-- COUNTS: read counters and marks (R146). -/
  | counts (tag : Byte) (payload : List Byte)
  /-- UNKNOWN_KIND: a good frame whose kind names no request (R186). -/
  | unknownKind (kind tag : Byte) (payload : List Byte)
  /-- CONTROL_FRAME: the bytes of one frame, start byte to CRC, arrive on the control link (R182). -/
  | controlFrame (bytes : List Byte)
  /-- INTER_BYTE_GAP: after these bytes, a gap over 20 ms on a link (R183). -/
  | interByteGap (link : LinkId) (received : List Byte)
  /-- LINK_BREAK: the control receive line has been at space for 10 ms (R184). -/
  | linkBreak
  /-- FRAME_SENT: the frame being sent on CTX, or on the head link of a ply, has been sent whole (R187, R69). -/
  | frameSent (link : LinkId)
  /-- POWER_ON: the supply rises into range, with the straps at these levels (R171). -/
  | powerOn (straps : Straps)
  /-- POWER_FAIL: the supply falls out of range; of the accounting writes of the last step, the last `lost` are
  absent (R170, R171). -/
  | powerFail (lost : Nat)
  /-- RSTN_ACTIVE: the reset line becomes active; `lost` as in POWER_FAIL (R170, R171). -/
  | rstnActive (lost : Nat)
  /-- RSTN_RELEASE: the reset line returns inactive, with the straps at these levels (R171, R172). -/
  | rstnRelease (straps : Straps)
  /-- LINE_INPUT_CHANGE: the electrical level of a line input becomes high or low (R12), or a strap pin takes a level,
  which for FITp is active or not (R66, R180). -/
  | lineInputChange (pin : InputPin) (high : Bool)
  /-- DEBOUNCE_EXPIRED: a line's pending change has held for its interval (R12). -/
  | debounceExpired (line : LineId)
  /-- HEAD_CUE: a cue at a head station (R46). -/
  | headCue (p : Ply)
  /-- LOAD_TIMEOUT: the timeout step of a head channel (R73). -/
  | loadTimeout (p : Ply)
  /-- MARRIAGE_CUE: a cue at the marriage station (R86). -/
  | marriageCue
  /-- READER_CUE: a cue at the reader station (R91). -/
  | readerCue
  /-- GATE_CUE: a cue at the gate station (R105). -/
  | gateCue
  /-- JOG_END: the jog width has passed (R124). -/
  | jogEnd
  /-- DONE: a head's completion message with its two payload bytes (R76). -/
  | done (p : Ply) (tag outcome : Byte)
  /-- HEADFAULT: a head's fault message with its code (R78). -/
  | headfault (p : Ply) (code : Byte)
  /-- HEAD_MALFORMED_MESSAGE: any other message of a head link (R68). -/
  | headMalformedMessage (p : Ply) (kind : Byte) (payload : List Byte)
  /-- RESULT: a result message of the reader with its payload (R93). -/
  | result (payload : List Byte)
  /-- READERFAULT: a fault message of the reader with its code (R92). -/
  | readerfault (code : Byte)
  /-- READER_MALFORMED_MESSAGE: any other message of the reader port (R89). -/
  | readerMalformedMessage (kind : Byte) (payload : List Byte)
  /-- FRAMING_ERROR: after these bytes, a byte whose stop bit is at space, on a link (R183). -/
  | framingError (link : LinkId) (received : List Byte)
  /-- RETURN_TO_MARK: the control receive line returns to mark (R184). -/
  | returnToMark
  deriving DecidableEq, Repr

end Sys2Proof
end

