-- ==== Sys2Proof/Decode.lean ====
section
/-! DEFINITION. What a word of the opcode table spells (nothing: the table gives its rows no bits), and the kind
codes of Table 84, by which a control-link frame names its request. -/

namespace Sys2Proof

/-- The command a table word spells. The table gives no row any bits, so no word spells a command (log entry 1). -/
def decodeTableWord (_nbits _w : Nat) : Option Instr := none

/-- The requests in the order of Table 84. -/
def RequestKind.all : List RequestKind :=
  [.ident, .status, .reset, .setLines, .setGeometry, .setScheme, .setFormat, .setPolicy, .commit,
   .start, .hold, .release, .abort, .close, .jumpIf, .recover, .stopClear,
   .rowRead, .cull, .headResume, .readerResume, .gateResume,
   .manifestRead, .manifestFree, .logRead, .logFree, .remakeRead, .counts]

/-- The kind byte of a request (Table 84). -/
def RequestKind.code : RequestKind → Byte
  | .ident => 0x01#8 | .status => 0x02#8 | .reset => 0x03#8 | .setLines => 0x04#8
  | .setGeometry => 0x08#8 | .setScheme => 0x09#8 | .setFormat => 0x0A#8 | .setPolicy => 0x0B#8 | .commit => 0x0C#8
  | .start => 0x10#8 | .hold => 0x11#8 | .release => 0x12#8 | .abort => 0x13#8 | .close => 0x14#8
  | .jumpIf => 0x15#8 | .recover => 0x16#8 | .stopClear => 0x17#8
  | .rowRead => 0x20#8 | .cull => 0x21#8 | .headResume => 0x24#8 | .readerResume => 0x25#8 | .gateResume => 0x26#8
  | .manifestRead => 0x28#8 | .manifestFree => 0x29#8
  | .logRead => 0x30#8 | .logFree => 0x31#8 | .remakeRead => 0x32#8 | .counts => 0x33#8

/-- The request a kind byte names, if it names one (R186, Table 84). -/
def RequestKind.ofByte (b : Byte) : Option RequestKind := RequestKind.all.find? fun k => k.code == b

/-- The reply kind for a frame's kind byte: 0x80 added for a request kind, otherwise 0xFF (R187). -/
def replyKind (b : Byte) : Byte :=
  match RequestKind.ofByte b with
  | some k => k.code ||| 0x80#8
  | none => 0xFF#8

/-- The request kind a request command stands for; none for the commands that are no request. -/
def Instr.requestKind : Instr → Option RequestKind
  | .ident _ _ => some .ident
  | .status _ _ => some .status
  | .reset _ _ => some .reset
  | .setLines _ _ => some .setLines
  | .setGeometry _ _ => some .setGeometry
  | .setScheme _ _ => some .setScheme
  | .setFormat _ _ => some .setFormat
  | .setPolicy _ _ => some .setPolicy
  | .commit _ _ => some .commit
  | .start _ _ => some .start
  | .hold _ _ => some .hold
  | .release _ _ => some .release
  | .abort _ _ => some .abort
  | .close _ _ => some .close
  | .jumpIf _ _ => some .jumpIf
  | .recover _ _ => some .recover
  | .stopClear _ _ => some .stopClear
  | .rowRead _ _ => some .rowRead
  | .cull _ _ => some .cull
  | .headResume _ _ => some .headResume
  | .readerResume _ _ => some .readerResume
  | .gateResume _ _ => some .gateResume
  | .manifestRead _ _ => some .manifestRead
  | .manifestFree _ _ => some .manifestFree
  | .logRead _ _ => some .logRead
  | .logFree _ _ => some .logFree
  | .remakeRead _ _ => some .remakeRead
  | .counts _ _ => some .counts
  | .unknownKind _ _ _ => none
  | .controlFrame _ => none
  | .interByteGap _ _ => none
  | .linkBreak => none
  | .frameSent _ => none
  | .powerOn _ => none
  | .powerFail _ => none
  | .rstnActive _ => none
  | .rstnRelease _ => none
  | .lineInputChange _ _ => none
  | .debounceExpired _ => none
  | .headCue _ => none
  | .loadTimeout _ => none
  | .marriageCue => none
  | .readerCue => none
  | .gateCue => none
  | .jogEnd => none
  | .done _ _ _ => none
  | .headfault _ _ => none
  | .headMalformedMessage _ _ _ => none
  | .result _ => none
  | .readerfault _ => none
  | .readerMalformedMessage _ _ => none
  | .framingError _ _ => none
  | .returnToMark => none

end Sys2Proof
end

