-- ==== Sys2Proof/Machine/State.lean ====
section
/-! DEFINITION. Everything the manual gives the NC-630 to hold, as plain data, and the part right after reset. -/

namespace Sys2Proof.Machine
open Sys2Proof

/-! ### Numbers and the job definition -/

/-- A number of the job's space (R18): the series ordinal (R19) when series are on, the serial's value, and the
check (R26), 10 standing for X; none where the number has no check. -/
structure Num where
  series : Option Nat
  serial : Nat
  check  : Option Nat
  deriving DecidableEq, Repr

/-- Direction of a stream (Table 16). -/
inductive Direction where
  | ascending | descending
  deriving DecidableEq, Repr

/-- Check methods (Table 19). -/
inductive CheckMethod where
  | none | mod7 | mod10w | mod11x | mod11s
  deriving DecidableEq, Repr

/-- Lane modes (Table 21). -/
inductive LaneMode where
  | consecutive | split | rep
  deriving DecidableEq, Repr

/-- The scheme block (Table 16). `startSeries` is the ordinal of the start series, none where none was given. -/
structure Scheme where
  jobId       : Nat
  seriesOn    : Bool
  startSeries : Option Nat
  width       : Nat
  base        : Nat
  startSerial : Nat
  stepK       : Nat
  dir         : Direction
  method      : CheckMethod
  lanes       : Nat
  mode        : LaneMode
  quantity    : Nat
  deriving DecidableEq, Repr

/-- The geometry block (Table 64). -/
structure Geometry where
  engaged  : PerPly Bool
  dist     : PerPly Nat
  readerV  : Nat
  gateG    : Nat
  timeoutT : Nat
  beforeB  : Nat
  afterA   : Nat
  deriving DecidableEq, Repr

/-- Zero mode of a print format (Table 22). -/
inductive ZeroMode where
  | zeros | blanks
  deriving DecidableEq, Repr

/-- Separator of a print format (Table 22). -/
inductive Separator where
  | none | hyphen | space
  deriving DecidableEq, Repr

/-- A ply's print format (Table 22). `lead` is the format's leading string of 0 to 3 characters. -/
structure Format where
  lead       : List Byte
  showSeries : Bool
  zeroMode   : ZeroMode
  separator  : Separator
  showCheck  : Bool
  deriving DecidableEq, Repr

/-- Cull policy (Table 65). -/
inductive CullPolicy where
  | void | remake
  deriving DecidableEq, Repr

/-- Unverified policy (R107), in the order of Table 65. -/
inductive UnverifiedPolicy where
  | deliver | cull
  deriving DecidableEq, Repr

/-- A run monitor's action (R16). -/
inductive MonitorAction where
  | report | stop
  deriving DecidableEq, Repr

/-- A set of lanes 1 to 3. -/
structure LaneSet where
  lane1 : Bool
  lane2 : Bool
  lane3 : Bool
  deriving DecidableEq, Repr

/-- The policy block (Table 65). -/
structure Policy where
  cullPolicy    : CullPolicy
  attemptLimit  : Nat
  bundleSize    : Nat
  jogWidth      : Nat
  verify        : Bool
  mask          : LaneSet
  unverified    : UnverifiedPolicy
  readFailLimit : Nat
  readFailAct   : MonitorAction
  spoilLimit    : Nat
  spoilAct      : MonitorAction
  deriving DecidableEq, Repr

/-- The job definition: four blocks (Section 8.2). -/
structure JobDef where
  geometry : Geometry
  scheme   : Scheme
  formats  : PerPly Format
  policy   : Policy
  deriving DecidableEq, Repr

/-! ### Line settings -/

/-- Debounce settings (R12), in the order of Table 13. -/
inductive Debounce where
  | off | ms2 | ms20
  deriving DecidableEq, Repr

/-- Polarity and debounce of one line (Table 13). -/
structure LineSetting where
  activeLow : Bool
  debounce  : Debounce
  deriving DecidableEq, Repr

/-- All line settings (R15). -/
structure LineSettings where
  lines      : PerLine LineSetting
  reportPrun : Bool
  reportKey  : Bool
  reportWbrk : Bool
  deriving DecidableEq, Repr

/-! ### Job state, causes -/

/-- Job states (Table 61). -/
inductive JobState where
  | idle | loaded | running | hold | draining | complete | aborted | recovery | resumable
  deriving DecidableEq, Repr

/-- Hold causes (Table 67). -/
inductive HoldCause where
  | host | log | manifest | exhausted
  deriving DecidableEq, Repr

/-- The set of hold causes held (R157). -/
structure HoldSet where
  host      : Bool
  log       : Bool
  manifest  : Bool
  exhausted : Bool
  deriving DecidableEq, Repr

/-- Stop causes (Table 70). -/
inductive StopCause where
  | headFault (p : Ply)
  | skew (p : Ply)
  | readerFault | readerSkew | gateSkew | readFail | spoilRun | webBreak | exhausted | powerLoss
  deriving DecidableEq, Repr

/-- The set of latched stop causes (R166). -/
structure StopSet where
  headFault   : PerPly Bool
  skew        : PerPly Bool
  readerFault : Bool
  readerSkew  : Bool
  gateSkew    : Bool
  readFail    : Bool
  spoilRun    : Bool
  webBreak    : Bool
  exhausted   : Bool
  powerLoss   : Bool
  deriving DecidableEq, Repr

/-- The causes of Table 53, in the order of Table 89. -/
inductive VoidCause where
  | hostCull | gateSkew | misfire | skipped | late | faulted | spliced | skewed | unfinished
  | marriageSkew | unmarried | mismatch | noread | unverified | remakeFull | aborted | powerLoss | jumped
  deriving DecidableEq, Repr

/-! ### Accounting memory -/

/-- A stream mark: an item, or END (R145). A mark that is absent is no member of the list of marks. -/
inductive Mark where
  | item (n : Num)
  | atEnd
  deriving DecidableEq, Repr

/-- The two marks of one stream (R145). -/
structure StreamMarks where
  alloc   : Mark
  retired : Mark
  deriving DecidableEq, Repr

/-- A range of jumped stream items (R169). -/
structure JumpRange where
  first : Num
  last  : Num
  deriving DecidableEq, Repr

/-- The continuity header (Table 72). The lists of marks are empty where the marks are absent. -/
structure Header where
  jobState    : JobState
  savedReturn : Option JobState
  jobId       : Nat
  marks       : List StreamMarks
  jumpList    : List JumpRange
  deriving DecidableEq, Repr

/-- A void record (Table 52). -/
structure VoidRecord where
  number    : Num
  lane      : Nat
  cause     : VoidCause
  setIndex  : Option Nat
  attempts  : Nat
  exhausted : Bool
  rangeLast : Option Num
  deriving DecidableEq, Repr

/-- The void log (R132), its freed count and its low flag (R134). -/
structure VoidLog where
  records : List VoidRecord
  freed   : Nat
  low     : Bool
  deriving DecidableEq, Repr

/-- Remake entry states (Table 55). -/
inductive EntryState where
  | waiting | inFlight | doubt | voidPending
  deriving DecidableEq, Repr

/-- A remake register entry (Table 55). -/
structure RemakeEntry where
  number       : Nat
  numbers      : List Num
  attempts     : Nat
  firstCause   : VoidCause
  state        : EntryState
  setIndex     : Option Nat
  pendingCause : Option VoidCause
  exhausted    : Bool
  deriving DecidableEq, Repr

/-- A pending-void row (R57, R141): the numbers with their lanes, the cause, and the set index where it has one. -/
structure PendingRow where
  setIndex  : Option Nat
  numbers   : List (Num × Nat)
  cause     : VoidCause
  attempts  : Nat
  exhausted : Bool
  deriving DecidableEq, Repr

/-- A counter with its saturated indication (R143). -/
structure Counter where
  value     : Nat
  saturated : Bool
  deriving DecidableEq, Repr

/-- The eleven counters (Table 58). -/
structure Counters where
  issued        : Counter
  excluded      : Counter
  jumped        : Counter
  delivered     : Counter
  voided        : Counter
  suspect       : Counter
  setsRegular   : Counter
  setsRemake    : Counter
  setsDelivered : Counter
  setsCulled    : Counter
  setsWaste     : Counter
  deriving DecidableEq, Repr

/-- Kind of a bundle exception (R117). -/
inductive ExceptionKind where
  | culled | remade | suspect
  deriving DecidableEq, Repr

/-- Disposition of a bundle exception (R117). -/
inductive ExceptionDisp where
  | voided | remake | voidPending | delivered
  deriving DecidableEq, Repr

/-- An exception entry of a bundle (R117). -/
structure BundleException where
  kind        : ExceptionKind
  setIndex    : Nat
  numbers     : List Num
  disposition : ExceptionDisp
  deriving DecidableEq, Repr

/-- Reasons of a bundle close (R121). -/
inductive CloseReason where
  | size | exceptions | final | aborted
  deriving DecidableEq, Repr

/-- The open bundle record (Table 49). `firsts` and `lasts` hold one place per lane. -/
structure OpenBundle where
  number       : Nat
  sets         : Nat
  firsts       : List (Option Num)
  lasts        : List (Option Num)
  exceptions   : List BundleException
  oversize     : Bool
  incomplete   : Bool
  closePending : Option CloseReason
  deriving DecidableEq, Repr

/-- A manifest (R125). -/
structure Manifest where
  jobId      : Nat
  bundle     : Nat
  reason     : CloseReason
  sets       : Nat
  firsts     : List (Option Num)
  lasts      : List (Option Num)
  exceptions : List BundleException
  oversize   : Bool
  incomplete : Bool
  deriving DecidableEq, Repr

/-- The accounting memory: everything that power loss and every reset keep (R15, R147, R150, R168). -/
structure Accounting where
  header       : Header
  job          : JobDef
  lineSettings : LineSettings
  laneStarts   : List Num
  log          : VoidLog
  register     : List RemakeEntry
  nextEntry    : Nat
  rows         : List PendingRow
  counters     : Counters
  bundle       : Option OpenBundle
  manifests    : List Manifest
  deriving DecidableEq, Repr

/-! ### Volatile blocks -/

/-- Station states (Table 8). -/
inductive StationState where
  | inactive | aligned | skewed
  deriving DecidableEq, Repr

/-- The nine stations (Table 5). -/
inductive StationId where
  | head (p : Ply)
  | marriage | reader | gate
  deriving DecidableEq, Repr

/-- One station: state, previous-skew flag, cue count (R2), delay (R3). -/
structure Station where
  state    : StationState
  prevSkew : Bool
  count    : Nat
  delay    : Option Nat
  deriving DecidableEq, Repr

/-- The station tracker. -/
structure Tracker where
  heads    : PerPly Station
  marriage : Station
  reader   : Station
  gate     : Station
  deriving DecidableEq, Repr

/-- Ply status values (Table 31). -/
inductive PlyStatus where
  | waiting | loaded | printed | misfire | skipped | late | faulted | spliced | skewed
  deriving DecidableEq, Repr

/-- Marriage of a record (Table 30). -/
inductive Marriage where
  | notYet | married | skewed
  deriving DecidableEq, Repr

/-- Class of a mismatch (R95). -/
inductive SlipClass where
  | digits | slipBehind | slipAhead
  deriving DecidableEq, Repr

/-- Verification of a record (Table 30). -/
inductive Verification where
  | notYet | matched
  | mismatch (lane pos : Nat) (cls : SlipClass)
  | noread | off
  deriving DecidableEq, Repr

/-- Kind of a set (R48). -/
inductive SetKind where
  | regular | remake
  deriving DecidableEq, Repr

/-- Record state (Table 30). -/
inductive RecordState where
  | opened | voidPending
  deriving DecidableEq, Repr

/-- A set record (Table 30); `plies` holds none for a ply the job does not engage. -/
structure SetRecord where
  index        : Nat
  kind         : SetKind
  numbers      : List Num
  entry        : Option Nat
  attempt      : Nat
  plies        : PerPly (Option PlyStatus)
  marriage     : Marriage
  verification : Verification
  hostCull     : Bool
  state        : RecordState
  pendingCause : Option VoidCause
  deriving DecidableEq, Repr

/-- Disposition of a retired set (R44). -/
inductive Disposition where
  | delivered | culled
  deriving DecidableEq, Repr

/-- A retirement trace (R44). -/
structure Trace where
  index       : Nat
  disposition : Disposition
  numbers     : List Num
  bundle      : Option Nat
  deriving DecidableEq, Repr

/-- What a slot that is not EMPTY holds (Table 29). -/
inductive Slot where
  | record (r : SetRecord)
  | trace (t : Trace)
  deriving DecidableEq, Repr

/-- The set table (R42, R45): the slots that are not EMPTY, by rising slot number, and the frontier. -/
structure SetTable where
  slots    : List Slot
  frontier : Nat
  deriving DecidableEq, Repr

/-- Head channel states (Table 36). -/
inductive ChannelState where
  | unfitted | disengaged | idle | leadIn | numbering | faulted
  deriving DecidableEq, Repr

/-- Fault causes of a head channel (R67). -/
inductive FaultCause where
  | head | timeout | protocol | skew
  deriving DecidableEq, Repr

/-- An outstanding load (R70). -/
structure Load where
  tag   : Nat
  index : Nat
  age   : Nat
  deriving DecidableEq, Repr

/-- A head channel (R65, R69, R70, R80): `code` is 0 when no head-fault code is held. -/
structure Channel where
  state      : ChannelState
  cause      : Option FaultCause
  code       : Nat
  queue      : List Load
  tagCounter : Nat
  afterCount : Nat
  deriving DecidableEq, Repr

/-- Reader states (Table 42). -/
inductive ReaderState where
  | idle | reading | lagging | faulted | skewed
  deriving DecidableEq, Repr

/-- A retire note (R90). -/
structure RetireNote where
  disposition : Disposition
  numbers     : List Num
  bundle      : Option Nat
  deriving DecidableEq, Repr

/-- Kind of a pending entry (R90). -/
inductive PendingKind where
  | blank | set
  deriving DecidableEq, Repr

/-- An entry of the reader's pending queue (R90). -/
structure ReaderEntry where
  index : Int
  kind  : PendingKind
  note  : Option RetireNote
  deriving DecidableEq, Repr

/-- The verification unit (R88, R98): `code` is 0 when no READERFAULT code is held. -/
structure Reader where
  state    : ReaderState
  queue    : List ReaderEntry
  code     : Nat
  readFail : Nat
  deriving DecidableEq, Repr

/-- The gate unit's volatile part: DIVERT asserted (R109), the jog pulse with the ms it has left (R124), and the
spoil-run value (R114). -/
structure Gate where
  divert   : Bool
  jog      : Option Nat
  spoilRun : Nat
  deriving DecidableEq, Repr

/-- The job controller's volatile part (R157, R166). -/
structure Control where
  holds : HoldSet
  stops : StopSet
  deriving DecidableEq, Repr

/-- The line unit: conditioned levels, and for each pending change the whole ms elapsed (R12). -/
structure LineUnit where
  conditioned : PerLine Bool
  pending     : PerLine (Option Nat)
  deriving DecidableEq, Repr

/-- A control-link frame: kind, tag, payload (R181). -/
structure CtlFrame where
  kind    : Byte
  tag     : Byte
  payload : List Byte
  deriving DecidableEq, Repr

/-- A frame of a head link or the reader port: kind and payload, no tag (R181). -/
structure PortFrame where
  kind    : Byte
  payload : List Byte
  deriving DecidableEq, Repr

/-- A receiver (R182): hunting; in a frame with the bytes after the start byte and the whole ms since the last of
them; or, on the control link after a break, waiting for the line to return to mark (R184). -/
inductive Receiver where
  | hunting
  | inFrame (got : List Byte) (gap : Nat)
  | awaitMark
  deriving DecidableEq, Repr

/-- Report kinds (Table 80). -/
inductive ReportKind where
  | stop | suspect | monitorLimit | state | bundle | logLow | line
  deriving DecidableEq, Repr

/-- A report with its fields fixed when it was raised (R189). -/
structure Report where
  kind    : ReportKind
  payload : List Byte
  deriving DecidableEq, Repr

/-- What the transmitter is sending (R187). -/
inductive TxSource where
  | busy | reply | report
  deriving DecidableEq, Repr

/-- The control link (Table 77): request queue, the reply of the request last taken while it waits, a BUSY reply
while it waits, the frame on CTX, whether the frame last sent was a reply, the report queue, the reports-lost flag,
whether the part's reset waits for the reply to end (R171), and the rate read from the straps, which
the head links and the reader port run at as well (R180). -/
structure Link where
  queue         : List CtlFrame
  reply         : Option CtlFrame
  busy          : Option CtlFrame
  sending       : Option (TxSource × CtlFrame)
  lastWasReply  : Bool
  reports       : List Report
  reportsLost   : Bool
  resetAwaiting : Bool
  rate          : Nat
  deriving DecidableEq, Repr

/-- The kinds of reset (R171), in the order of Table 89. -/
inductive ResetKind where
  | powerOn | rstn | request
  deriving DecidableEq, Repr

/-- The supply, the reset line, the kind of the last reset, and the levels of the line inputs and strap pins as the
outside gives them now. What a reset read from the straps is `fitted` and the link's `rate` (R66, R180). -/
structure Part where
  powered   : Bool
  rstn      : Bool
  lastReset : ResetKind
  lineHigh  : PerLine Bool
  straps    : Straps
  deriving DecidableEq, Repr

/-- The state of the NC-630. `pending` is the queue of commands not yet taken, and `journal` the contents accounting
memory had before the last step and after each of its accounting writes, newest first (R170); both are the model's own
fields. -/
structure State where
  pending   : List Instr
  part      : Part
  link      : Link
  rxControl : Receiver
  rxHead    : PerPly Receiver
  rxReader  : Receiver
  headTx    : PerPly (List PortFrame)
  lines     : LineUnit
  tracker   : Tracker
  table     : SetTable
  fitted    : PerPly Bool
  heads     : PerPly Channel
  reader    : Reader
  gate      : Gate
  control   : Control
  acct      : Accounting
  journal   : List Accounting
  deriving DecidableEq, Repr

/-- Why the block stops for good. It has no such state: the manual answers every command, in every state, with an
effect or with none, so this type has no member (log entry 4). Safe: no run is cut short. -/
inductive Fault where
  deriving DecidableEq, Repr

/-- Why a command has no meaning. -/
inductive Refusal where
  /-- Raised by an arm of exec for a command that has no meaning yet; no arm raises it. Safe: the run stops. -/
  | notModelled (mnemonic : String)
  deriving DecidableEq, Repr

/-! ### Reset values -/

/-- The geometry defaults of Table 63. -/
def Geometry.default : Geometry where
  engaged := PerPly.const false
  dist := PerPly.const 1
  readerV := 1
  gateG := 2
  timeoutT := 3
  beforeB := 0
  afterA := 0

/-- The scheme defaults of Table 63. -/
def Scheme.default : Scheme where
  jobId := 0
  seriesOn := false
  startSeries := none
  width := 6
  base := 1
  startSerial := 1
  stepK := 1
  dir := .ascending
  method := .none
  lanes := 1
  mode := .consecutive
  quantity := 1

/-- The format defaults of Table 63. -/
def Format.default : Format where
  lead := []
  showSeries := false
  zeroMode := .zeros
  separator := .none
  showCheck := true

/-- The policy defaults of Table 63. -/
def Policy.default : Policy where
  cullPolicy := .void
  attemptLimit := 1
  bundleSize := 500
  jogWidth := 50
  verify := true
  mask := ⟨true, false, false⟩
  unverified := .cull
  readFailLimit := 3
  readFailAct := .stop
  spoilLimit := 8
  spoilAct := .stop

/-- The job definition a part holds that has never held a job, and after CLOSE (R150). -/
def JobDef.default : JobDef where
  geometry := Geometry.default
  scheme := Scheme.default
  formats := PerPly.const Format.default
  policy := Policy.default

/-- The factory line settings (Table 13). -/
def LineSettings.factory : LineSettings where
  lines := PerLine.const ⟨false, .ms20⟩
  reportPrun := false
  reportKey := false
  reportWbrk := false

/-- A counter at 0. -/
def Counter.zero : Counter := ⟨0, false⟩

/-- All counters at 0 with no saturated report (R144). -/
def Counters.zero : Counters :=
  ⟨.zero, .zero, .zero, .zero, .zero, .zero, .zero, .zero, .zero, .zero, .zero⟩

/-- No hold cause. -/
def HoldSet.empty : HoldSet := ⟨false, false, false, false⟩

/-- No stop cause. -/
def StopSet.empty : StopSet :=
  ⟨PerPly.const false, PerPly.const false, false, false, false, false, false, false, false, false⟩

/-- Accounting memory that has never been written (R168). R168 does not name the next entry number and the freed count:
1 and 0, the values START from LOADED and CLOSE set (R136, R138, R147), are the model's choice (DESIGN CHOICE, log entry
31). -/
def Accounting.factory : Accounting where
  header := ⟨.idle, none, 0, [], []⟩
  job := JobDef.default
  lineSettings := LineSettings.factory
  laneStarts := []
  log := ⟨[], 0, false⟩
  register := []
  nextEntry := 1
  rows := []
  counters := Counters.zero
  bundle := none
  manifests := []

/-- A station after a reset (R11). -/
def Station.afterReset : Station := ⟨.inactive, false, 0, none⟩

/-- The tracker after a reset (R11). -/
def Tracker.afterReset : Tracker :=
  ⟨PerPly.const .afterReset, .afterReset, .afterReset, .afterReset⟩

/-- A head channel with nothing outstanding, in a given state (R85). -/
def Channel.cleared (st : ChannelState) : Channel := ⟨st, none, 0, [], 0, 0⟩

/-- The straps the model gives a part at State.reset: six heads fitted, both BAUD straps low (log entry 3). -/
def Straps.default : Straps := ⟨PerPly.const true, false, false⟩

/-- The part right after a power-on reset with accounting memory never written: Table 73 for the volatile blocks,
R168 for accounting memory, and the pin levels of log entry 3. -/
def State.reset : State where
  pending := []
  part := ⟨true, false, .powerOn, PerLine.const false, Straps.default⟩
  link := ⟨[], none, none, none, false, [], false, false, 115200⟩
  rxControl := .hunting
  rxHead := PerPly.const .hunting
  rxReader := .hunting
  headTx := PerPly.const []
  lines := ⟨PerLine.const false, PerLine.const none⟩
  tracker := Tracker.afterReset
  table := ⟨[], 0⟩
  fitted := PerPly.const true
  heads := PerPly.const (Channel.cleared .disengaged)
  reader := ⟨.idle, [], 0, 0⟩
  gate := ⟨true, none, 0⟩
  control := ⟨HoldSet.empty, StopSet.empty⟩
  acct := Accounting.factory
  journal := []

end Sys2Proof.Machine
end

