-- ==== Sys2Proof/Machine/Bytes.lean ====
section
/-! DEFINITION. Bytes of frames: big-endian fields, the CRC, the wire form of a frame and the receiver (R181 to R183). -/

namespace Sys2Proof.Machine
open Sys2Proof

/-- A byte from a value, taken modulo 256. -/
def byte (n : Nat) : Byte := BitVec.ofNat 8 n

/-- A 2-byte big-endian field. -/
def be16 (n : Nat) : List Byte := [byte (n / 256), byte n]

/-- A 4-byte big-endian field. -/
def be32 (n : Nat) : List Byte := [byte (n / 16777216), byte (n / 65536), byte (n / 256), byte n]

/-- A 5-byte big-endian field (R196). -/
def be40 (n : Nat) : List Byte := byte (n / 4294967296) :: be32 n

/-- A 5-byte signed field in two's complement (R201). -/
def beSigned40 (i : Int) : List Byte := be40 (i % 1099511627776).toNat

/-- A yes-or-no byte: 1 or 0 (R197). -/
def flagByte (b : Bool) : Byte := if b then 1#8 else 0#8

/-- The byte of a payload at an offset, as a value (0 beyond the end). -/
def u8 (pl : List Byte) (i : Nat) : Nat := (pl.getD i 0#8).toNat

/-- The 2-byte field of a payload at an offset. -/
def u16 (pl : List Byte) (i : Nat) : Nat := u8 pl i * 256 + u8 pl (i + 1)

/-- The 4-byte field of a payload at an offset. -/
def u32 (pl : List Byte) (i : Nat) : Nat := u16 pl i * 65536 + u16 pl (i + 2)

/-- A set of bits written as a byte, bit 0 first. -/
def bitsByte : List Bool → Nat
  | [] => 0
  | b :: bs => (if b then 1 else 0) + 2 * bitsByte bs

/-- Bit i of a value. -/
def bitOf (n i : Nat) : Bool := n / 2 ^ i % 2 == 1

/-- One bit of the CRC register, most significant bit first (R181). -/
def crcBit (c : BitVec 16) : BitVec 16 := if c.msb then (c <<< 1) ^^^ 0x1021#16 else c <<< 1

/-- One byte of the CRC (R181). -/
def crcByte (c : BitVec 16) (b : Byte) : BitVec 16 :=
  crcBit (crcBit (crcBit (crcBit (crcBit (crcBit (crcBit (crcBit (c ^^^ (b.setWidth 16 <<< 8)))))))))

/-- The CRC of a frame's length, kind, tag and payload (R181). -/
def crc (bs : List Byte) : BitVec 16 := bs.foldl crcByte 0xFFFF#16

/-- The start byte (R181). -/
def startByte : Byte := 0xA5#8

/-- A frame on a line: start byte, length, body, CRC (R181); the body is kind, tag and payload, or kind and payload. -/
def wireOf (body : List Byte) : List Byte :=
  startByte :: (be16 body.length ++ body ++ be16 (crc (be16 body.length ++ body)).toNat)

/-- The kind, tag and payload of a control-link frame. -/
def CtlFrame.body (f : CtlFrame) : List Byte := f.kind :: f.tag :: f.payload

/-- A control-link frame as it is sent (Table 83). -/
def CtlFrame.wire (f : CtlFrame) : List Byte := wireOf f.body

/-- A head-link or reader-port frame as it is sent (Table 83). -/
def PortFrame.wire (f : PortFrame) : List Byte := wireOf (f.kind :: f.payload)

/-- The least and greatest length field of a link (R181). -/
def lengthRange : LinkId → Nat × Nat
  | .control => (2, 242)
  | .head _ => (1, 241)
  | .reader => (1, 241)

/-- What the receiver does with the bytes collected after the start byte: it goes on, drops the frame, or has a good
frame whose body is given (R182). -/
inductive Collected where
  | more
  | dropped
  | good (body : List Byte)
  deriving DecidableEq, Repr

/-- The receiver's judgement of the bytes collected after the start byte (R182). -/
def collected (range : Nat × Nat) (got : List Byte) : Collected :=
  if got.length < 2 then .more
  else if u16 got 0 < range.1 ∨ range.2 < u16 got 0 then .dropped
  else if got.length < u16 got 0 + 4 then .more
  else if be16 (crc (got.take (u16 got 0 + 2))).toNat = (got.drop (u16 got 0 + 2)).take 2 then
    .good ((got.drop 2).take (u16 got 0))
  else .dropped

/-- One received byte: the receiver's next state, and the body of a good frame that ends with it (R182). -/
def receiveByte (range : Nat × Nat) (rx : Receiver) (b : Byte) : Receiver × Option (List Byte) :=
  match rx with
  | .awaitMark => (.awaitMark, none)
  | .hunting => if b = startByte then (.inFrame [] 0, none) else (.hunting, none)
  | .inFrame got _ =>
    match collected range (got ++ [b]) with
    | .more => (.inFrame (got ++ [b]) 0, none)
    | .dropped => (.hunting, none)
    | .good body => (.hunting, some body)

/-- The gap over 20 ms, or the byte with a framing error: a frame in progress is discarded (R183). -/
def Receiver.dropFrame : Receiver → Receiver
  | .inFrame _ _ => .hunting
  | .hunting => .hunting
  | .awaitMark => .awaitMark

/-- One ms passes on a line: a gap that now exceeds 20 ms discards the frame; no gap is timed in HUNTING (R183). -/
def Receiver.tick : Receiver → Receiver
  | .inFrame got gap => if gap + 1 ≤ Config.gapLimit then .inFrame got (gap + 1) else .hunting
  | .hunting => .hunting
  | .awaitMark => .awaitMark

end Sys2Proof.Machine
end

