-- ==== Sys2Proof/Machine/Numbers.lean ====
section
/-! DEFINITION. Number arithmetic: positions, stepping, streams, check digits, lane streams (R18 to R37). -/

namespace Sys2Proof.Machine
open Sys2Proof

/-- The 24 letters of the series alphabet in ordinal order (Table 17): A to Z without I and O. -/
def seriesAlphabet : List Byte :=
  [0x41, 0x42, 0x43, 0x44, 0x45, 0x46, 0x47, 0x48, 0x4A, 0x4B, 0x4C, 0x4D,
   0x4E, 0x50, 0x51, 0x52, 0x53, 0x54, 0x55, 0x56, 0x57, 0x58, 0x59, 0x5A]

/-- The ordinal of a series letter, if it is in the alphabet (R19). -/
def letterOrdinal (b : Byte) : Option Nat := seriesAlphabet.findIdx? (· == b)

/-- The letter of an ordinal. -/
def letterOf (o : Nat) : Byte := seriesAlphabet.getD o 0x41

/-- The ordinal of a series of two letters, if both are in the alphabet (R19). -/
def seriesOrdinal (a b : Byte) : Option Nat :=
  match letterOrdinal a, letterOrdinal b with
  | some x, some y => some (24 * x + y)
  | _, _ => none

/-- The two letters of a series ordinal (R19). -/
def seriesLetters (o : Nat) : List Byte := [letterOf (o / 24), letterOf (o % 24)]

/-- The decimal digit of a value at a position from the right, the rightmost being 0. -/
def digitAt (n i : Nat) : Nat := n / 10 ^ i % 10

/-- The W decimal digits of a value, most significant first. -/
def digits (w n : Nat) : List Nat := (List.range w).reverse.map (digitAt n)

/-! ### Check digits -/

/-- The sum of the digits, rightmost first, each times its weight. -/
def weightedSum (weights : List Nat) (w n : Nat) : Nat :=
  (((List.range w).zip weights).map fun x => digitAt n x.1 * x.2).sum

/-- MOD10W weights from the right (R27). -/
def mod10Weights : List Nat := [3, 1, 3, 1, 3, 1, 3, 1, 3]

/-- MOD11 weights from the right (Table 20). -/
def mod11Weights : List Nat := [2, 3, 4, 5, 6, 7, 2, 3, 4]

/-- The MOD11X check value: 10 stands for X (R28). -/
def mod11Value (w n : Nat) : Nat :=
  if 11 - weightedSum mod11Weights w n % 11 = 11 then 0 else 11 - weightedSum mod11Weights w n % 11

/-- MOD11S excludes a serial whose value is 10 (R29). -/
def Scheme.excluded (c : Scheme) (serial : Nat) : Bool :=
  c.method == .mod11s && mod11Value c.width serial == 10

/-- The check the job's method gives a serial (R26 to R29); an excluded serial carries none (R131). -/
def Scheme.checkOf (c : Scheme) (serial : Nat) : Option Nat :=
  match c.method with
  | .none => none
  | .mod7 => some (serial % 7)
  | .mod10w => some ((10 - weightedSum mod10Weights c.width serial % 10) % 10)
  | .mod11x => some (mod11Value c.width serial)
  | .mod11s => if mod11Value c.width serial = 10 then none else some (mod11Value c.width serial)

/-! ### Positions and steps -/

/-- M, the size of the serial space (R18). -/
def Scheme.space (c : Scheme) : Nat := 10 ^ c.width - c.base

/-- P_last (R20). -/
def Scheme.lastPos (c : Scheme) : Nat := if c.seriesOn then 576 * c.space - 1 else c.space - 1

/-- The position of a number (R20). -/
def Scheme.posOf (c : Scheme) (n : Num) : Nat :=
  (if c.seriesOn then n.series.getD 0 * c.space else 0) + (n.serial - c.base)

/-- The number at a position (R20), with its check (R26). -/
def Scheme.numAt (c : Scheme) (pos : Nat) : Num where
  series := if c.seriesOn then some (pos / c.space) else none
  serial := c.base + pos % c.space
  check := c.checkOf (c.base + pos % c.space)

/-- The step from a position, if it has a result (R21, R22). -/
def Scheme.stepPos (c : Scheme) (pos : Nat) : Option Nat :=
  match c.dir with
  | .ascending => if pos + c.stepK ≤ c.lastPos then some (pos + c.stepK) else none
  | .descending => if c.stepK ≤ pos then some (pos - c.stepK) else none

/-- The item one step back from a position (R133). -/
def Scheme.stepBackPos (c : Scheme) (pos : Nat) : Nat :=
  match c.dir with
  | .ascending => pos - c.stepK
  | .descending => pos + c.stepK

/-- The mark one step after a number: the next item, or END (R22, R23). -/
def Scheme.markAfter (c : Scheme) (n : Num) : Mark :=
  match c.stepPos (c.posOf n) with
  | some p => .item (c.numAt p)
  | none => .atEnd

/-- The start number's position (R23). -/
def Scheme.startPos (c : Scheme) : Nat := c.posOf ⟨c.startSeries, c.startSerial, none⟩

/-- Position q is forward of position p in stream order (R24). -/
def Scheme.forward (c : Scheme) (p q : Nat) : Bool :=
  match c.dir with
  | .ascending => decide (p < q)
  | .descending => decide (q < p)

/-- A position lies on the stream from the job's start (R23). -/
def Scheme.onStream (c : Scheme) (pos : Nat) : Bool :=
  match c.dir with
  | .ascending => decide (c.startPos ≤ pos) && (pos - c.startPos) % c.stepK == 0 && decide (pos ≤ c.lastPos)
  | .descending => decide (pos ≤ c.startPos) && (c.startPos - pos) % c.stepK == 0

/-- The distance in stream items between two positions of one stream (R25). -/
def Scheme.distance (c : Scheme) (p q : Nat) : Nat :=
  match c.dir with
  | .ascending => (q - p) / c.stepK
  | .descending => (p - q) / c.stepK

/-- The stream from a position holds at least n items (R23, R37). -/
def Scheme.holds (c : Scheme) (pos n : Nat) : Bool :=
  match c.dir with
  | .ascending => decide (pos + (n - 1) * c.stepK ≤ c.lastPos)
  | .descending => decide ((n - 1) * c.stepK ≤ pos)

/-- The position n steps forward of another (R36). -/
def Scheme.stepsFrom (c : Scheme) (pos n : Nat) : Nat :=
  match c.dir with
  | .ascending => pos + n * c.stepK
  | .descending => pos - n * c.stepK

/-- Two numbers are equal in series and serial; the check is not compared (R24). -/
def Num.same (a b : Num) : Bool := a.series == b.series && a.serial == b.serial

/-! ### Lane modes -/

/-- How many streams the job has (Table 21). -/
def Scheme.streamCount (c : Scheme) : Nat := if c.mode = .split then c.lanes else 1

/-- How many numbers a set carries (Table 21). -/
def Scheme.numbersPerSet (c : Scheme) : Nat := if c.mode = .rep then 1 else c.lanes

/-- The items the job's regular allocation takes of the stream from the start (R37). -/
def Scheme.itemsNeeded (c : Scheme) : Nat := c.quantity * c.numbersPerSet

/-- The SPLIT lane starts (R36). -/
def Scheme.splitStarts (c : Scheme) : List Num :=
  (List.range c.lanes).map fun j => c.numAt (c.stepsFrom c.startPos (j * c.quantity))

/-- The lane starts COMMIT holds: those of R36 in SPLIT mode, none otherwise. -/
def Scheme.laneStarts (c : Scheme) : List Num := if c.mode = .split then c.splitStarts else []

/-- The start of each stream (R31). -/
def Scheme.streamStarts (c : Scheme) : List Num :=
  if c.mode = .split then c.splitStarts else [c.numAt c.startPos]

/-- Conflict check C3 (Table 66): the start serial is at least the base; with series on a start series is given. -/
def Scheme.startOk (c : Scheme) : Bool :=
  decide (c.base ≤ c.startSerial) && (!c.seriesOn || c.startSeries.isSome)

/-- The number lane j (from 1) prints, of a set's numbers (Table 21). -/
def Scheme.laneNumber (c : Scheme) (ns : List Num) (j : Nat) : Option Num :=
  if c.mode = .rep then ns[0]? else ns[j - 1]?

/-- The lane a void record names for the i-th number (from 0) of a set: 0 in REPEAT mode (R111). -/
def Scheme.recordLane (c : Scheme) (i : Nat) : Nat := if c.mode = .rep then 0 else i + 1

/-- A set's numbers with the lanes their void records name (R57, R111). -/
def Scheme.withLanes (c : Scheme) (ns : List Num) : List (Num × Nat) :=
  ns.zip ((List.range ns.length).map c.recordLane)

/-- In-doubt numbers with the lanes R131 gives: the stream's lane in SPLIT mode, otherwise 0. -/
def Scheme.withDoubtLanes (c : Scheme) (ns : List Num) : List (Num × Nat) :=
  ns.zip ((List.range ns.length).map fun i => if c.mode = .split then i + 1 else 0)

/-! ### Issuing -/

/-- What issuing one item gives: the number, the exclusions stepped past, and the new next regular number. -/
structure Issue where
  number   : Num
  excluded : Nat
  next     : Mark
  deriving DecidableEq, Repr

/-- Issue one item from a stream's next regular number; none is exhaustion (R32). -/
def Scheme.issue (c : Scheme) : Mark → Option Issue
  | .atEnd => none
  | .item n =>
    if c.excluded n.serial then
      match c.stepPos (c.posOf n) with
      | none => none
      | some p => some ⟨c.numAt p, 1, c.markAfter (c.numAt p)⟩
    else some ⟨{ n with check := c.checkOf n.serial }, 0, c.markAfter n⟩

/-- Issue k items of one stream in turn: the numbers, the exclusions, the new next regular number (R33). -/
def Scheme.issueRun (c : Scheme) : Nat → Mark → Option (List Num × Nat × Mark)
  | 0, m => some ([], 0, m)
  | k + 1, m =>
    match c.issue m with
    | none => none
    | some i =>
      match c.issueRun k i.next with
      | none => none
      | some (ns, e, m') => some (i.number :: ns, i.excluded + e, m')

/-- Issue one item of each stream: the numbers, the exclusions, the new next regular numbers (R33). -/
def Scheme.issueEach (c : Scheme) : List Mark → Option (List Num × Nat × List Mark)
  | [] => some ([], 0, [])
  | m :: ms =>
    match c.issue m with
    | none => none
    | some i =>
      match c.issueEach ms with
      | none => none
      | some (ns, e, rest) => some (i.number :: ns, i.excluded + e, i.next :: rest)

/-- The issues of one regular allocation from the streams' next regular numbers (R33). -/
def Scheme.issueSet (c : Scheme) (ms : List Mark) : Option (List Num × Nat × List Mark) :=
  if c.mode = .split then c.issueEach ms
  else
    match ms with
    | [] => none
    | m :: rest =>
      match c.issueRun c.numbersPerSet m with
      | none => none
      | some (ns, e, m') => some (ns, e, m' :: rest)

/-- A set's last number on each stream (R113). -/
def Scheme.lastPerStream (c : Scheme) (ns : List Num) : List Num :=
  if c.mode = .split then ns else ns.getLast?.toList

end Sys2Proof.Machine
end

