-- ==== Sys2Proof/Machine/Print.lean ====
section
/-! DEFINITION. Print strings of a number under a ply's format (R38 to R41), as ASCII codes (R198). -/

namespace Sys2Proof.Machine
open Sys2Proof

/-- The ASCII code of a decimal digit (R198). -/
def digitChar (d : Nat) : Byte := byte (0x30 + d)

/-- The serial's digits with leading zeros as spaces; the last digit always prints (R40). -/
def blankZeros : List Nat → List Byte
  | [] => []
  | [d] => [digitChar d]
  | d :: e :: ds => if d = 0 then 0x20#8 :: blankZeros (e :: ds) else (d :: e :: ds).map digitChar

/-- The serial part of a print string (R40). -/
def serialString (z : ZeroMode) (w serial : Nat) : List Byte :=
  match z with
  | .zeros => (digits w serial).map digitChar
  | .blanks => blankZeros (digits w serial)

/-- The check character: a digit, or X (R39). -/
def checkChar (c : Nat) : Byte := if c = 10 then 0x58#8 else digitChar c

/-- The separator's character, if it has one (R39). -/
def Separator.chars : Separator → List Byte
  | .none => []
  | .hyphen => [0x2D#8]
  | .space => [0x20#8]

/-- The print string of a format for a number, in a scheme of width w (R39). -/
def printString (w : Nat) (f : Format) (n : Num) : List Byte :=
  f.lead
    ++ (if f.showSeries then n.series.elim [] seriesLetters else [])
    ++ serialString f.zeroMode w n.serial
    ++ (if f.showCheck then n.check.elim [] fun c => f.separator.chars ++ [checkChar c] else [])

/-- Lane j's string (from 1) under a format, for a set's numbers (R41). -/
def laneString (c : Scheme) (f : Format) (ns : List Num) (j : Nat) : List Byte :=
  ((c.laneNumber ns j).map (printString c.width f)).getD []

/-- The strings of a set on one ply, lanes 1 to L (R41). -/
def laneStrings (c : Scheme) (f : Format) (ns : List Num) : List (List Byte) :=
  (List.range c.lanes).map fun i => laneString c f ns (i + 1)

end Sys2Proof.Machine
end

