-- ==== Sys2Proof/Machine/Flags.lean ====
section
/-! DEFINITION. The part's sets, statuses and flags: hold causes, stop causes, ply status, marriage and verification
updates, the low flag, the run monitor's count, and the codes of Tables 86, 88 and 89. -/

namespace Sys2Proof.Machine
open Sys2Proof

/-! ### Job states -/

/-- The job is RUNNING, HOLD or DRAINING: the stations are in the job (R1). -/
def JobState.inRun : JobState → Bool
  | .running => true | .hold => true | .draining => true
  | .idle => false | .loaded => false | .complete => false | .aborted => false
  | .recovery => false | .resumable => false

/-- Job state codes (Table 89). -/
def JobState.code : JobState → Nat
  | .idle => 0 | .loaded => 1 | .running => 2 | .hold => 3 | .draining => 4
  | .complete => 5 | .aborted => 6 | .recovery => 7 | .resumable => 8

/-! ### Hold causes -/

/-- A cause is held. -/
def HoldSet.has (h : HoldSet) : HoldCause → Bool
  | .host => h.host | .log => h.log | .manifest => h.manifest | .exhausted => h.exhausted

/-- A cause put into the set or taken out of it. -/
def HoldSet.put (h : HoldSet) (c : HoldCause) (b : Bool) : HoldSet :=
  match c with
  | .host => { h with host := b } | .log => { h with log := b }
  | .manifest => { h with manifest := b } | .exhausted => { h with exhausted := b }

/-- A cause other than HOST is held (R159). -/
def HoldSet.beyondHost (h : HoldSet) : Bool := h.log || h.manifest || h.exhausted

/-- The one byte of a hold-cause set (Section 11.3). -/
def HoldSet.byte (h : HoldSet) : Byte := Machine.byte (bitsByte [h.host, h.log, h.manifest, h.exhausted])

/-! ### Stop causes -/

/-- A cause is latched. -/
def StopSet.has (s : StopSet) : StopCause → Bool
  | .headFault p => s.headFault.get p | .skew p => s.skew.get p
  | .readerFault => s.readerFault | .readerSkew => s.readerSkew | .gateSkew => s.gateSkew
  | .readFail => s.readFail | .spoilRun => s.spoilRun | .webBreak => s.webBreak
  | .exhausted => s.exhausted | .powerLoss => s.powerLoss

/-- A cause put into the set or taken out of it. -/
def StopSet.put (s : StopSet) (c : StopCause) (b : Bool) : StopSet :=
  match c with
  | .headFault p => { s with headFault := s.headFault.set p b }
  | .skew p => { s with skew := s.skew.set p b }
  | .readerFault => { s with readerFault := b } | .readerSkew => { s with readerSkew := b }
  | .gateSkew => { s with gateSkew := b } | .readFail => { s with readFail := b }
  | .spoilRun => { s with spoilRun := b } | .webBreak => { s with webBreak := b }
  | .exhausted => { s with exhausted := b } | .powerLoss => { s with powerLoss := b }

/-- The twenty causes in the bit order of Table 88. -/
def StopCause.all : List StopCause :=
  Ply.all.map StopCause.headFault ++ Ply.all.map StopCause.skew ++
    [.readerFault, .readerSkew, .gateSkew, .readFail, .spoilRun, .webBreak, .exhausted, .powerLoss]

/-- The cause's code, 1 to 20, in the bit order of Table 88 (R200). -/
def StopCause.code : StopCause → Nat
  | .headFault p => p.number
  | .skew p => 6 + p.number
  | .readerFault => 13 | .readerSkew => 14 | .gateSkew => 15 | .readFail => 16
  | .spoilRun => 17 | .webBreak => 18 | .exhausted => 19 | .powerLoss => 20

/-- At least one cause is latched. -/
def StopSet.any (s : StopSet) : Bool := StopCause.all.any s.has

/-- The three bytes of a cause set (Table 88). -/
def StopSet.bytes (s : StopSet) : List Byte :=
  [byte (bitsByte s.headFault.toList), byte (bitsByte s.skew.toList),
   byte (bitsByte [s.readerFault, s.readerSkew, s.gateSkew, s.readFail, s.spoilRun, s.webBreak, s.exhausted,
     s.powerLoss])]

/-- A cause set read from three bytes; none where a reserved bit is set (R197). -/
def StopSet.ofPayload (pl : List Byte) : Option StopSet :=
  if u8 pl 0 < 64 ∧ u8 pl 1 < 64 then
    some
      { headFault := PerPly.ofFn fun p => bitOf (u8 pl 0) (p.number - 1)
        skew := PerPly.ofFn fun p => bitOf (u8 pl 1) (p.number - 1)
        readerFault := bitOf (u8 pl 2) 0
        readerSkew := bitOf (u8 pl 2) 1
        gateSkew := bitOf (u8 pl 2) 2
        readFail := bitOf (u8 pl 2) 3
        spoilRun := bitOf (u8 pl 2) 4
        webBreak := bitOf (u8 pl 2) 5
        exhausted := bitOf (u8 pl 2) 6
        powerLoss := bitOf (u8 pl 2) 7 }
  else none

/-- The stop line is asserted exactly when the job is in HOLD or RECOVERY or a stop cause is latched (R166). -/
def State.stopLine (s : State) : Bool :=
  s.acct.header.jobState == .hold || s.acct.header.jobState == .recovery || s.control.stops.any

/-! ### Record updates -/

/-- A status that spoils the set (Table 31). -/
def PlyStatus.spoil : PlyStatus → Bool
  | .waiting => false | .loaded => false | .printed => false
  | .misfire => true | .skipped => true | .late => true | .faulted => true | .spliced => true | .skewed => true

/-- The status after an update: LOADED replaces WAITING, PRINTED replaces LOADED, a spoil status replaces one that
is no spoil; any other update is absorbed (Table 33). -/
def PlyStatus.update (old new : PlyStatus) : PlyStatus :=
  match new with
  | .waiting => old
  | .loaded => if old = .waiting then .loaded else old
  | .printed => if old = .loaded then .printed else old
  | .misfire => if old.spoil then old else .misfire
  | .skipped => if old.spoil then old else .skipped
  | .late => if old.spoil then old else .late
  | .faulted => if old.spoil then old else .faulted
  | .spliced => if old.spoil then old else .spliced
  | .skewed => if old.spoil then old else .skewed

/-- The marriage after an update (Table 34). -/
def Marriage.update (old new : Marriage) : Marriage :=
  match old, new with
  | .notYet, new => new
  | .married, .skewed => .skewed
  | .married, _ => .married
  | .skewed, _ => .skewed

/-- The verification after a result (Table 34): the worse of two results stands, OFF is never replaced. -/
def Verification.update (old new : Verification) : Verification :=
  match old, new with
  | .off, _ => .off
  | .mismatch l p c, _ => .mismatch l p c
  | .notYet, .matched => .matched
  | .notYet, .noread => .noread
  | .notYet, .mismatch l p c => .mismatch l p c
  | .matched, .noread => .noread
  | .matched, .mismatch l p c => .mismatch l p c
  | .noread, .mismatch l p c => .mismatch l p c
  | old, _ => old

/-! ### Codes of Tables 86 and 89 -/

/-- Reply statuses (Table 86). -/
inductive Status where
  | ok | unknownKind | format | privilege | state | range | conflict | tooLate | notFound | busy | mismatch
  | causePersists | pressRunning | logFull
  deriving DecidableEq, Repr

/-- Status bytes (Table 86). -/
def Status.byte : Status → Byte
  | .ok => 0x00#8 | .unknownKind => 0x01#8 | .format => 0x02#8 | .privilege => 0x03#8 | .state => 0x04#8
  | .range => 0x05#8 | .conflict => 0x06#8 | .tooLate => 0x07#8 | .notFound => 0x08#8 | .busy => 0x09#8
  | .mismatch => 0x0A#8 | .causePersists => 0x0B#8 | .pressRunning => 0x0C#8 | .logFull => 0x0D#8

/-- Station state codes. -/
def StationState.code : StationState → Nat
  | .inactive => 0 | .aligned => 1 | .skewed => 2

/-- Channel state codes. -/
def ChannelState.code : ChannelState → Nat
  | .unfitted => 0 | .disengaged => 1 | .idle => 2 | .leadIn => 3 | .numbering => 4 | .faulted => 5

/-- Fault cause codes, 0 for none. -/
def FaultCause.code : Option FaultCause → Nat
  | none => 0 | some .head => 1 | some .timeout => 2 | some .protocol => 3 | some .skew => 4

/-- Reader state codes. -/
def ReaderState.code : ReaderState → Nat
  | .idle => 0 | .reading => 1 | .lagging => 2 | .faulted => 3 | .skewed => 4

/-- The reader is suspended (Table 42). -/
def ReaderState.suspended : ReaderState → Bool
  | .idle => false | .reading => false | .lagging => true | .faulted => true | .skewed => true

/-- The channel is running (R65). -/
def ChannelState.runs : ChannelState → Bool
  | .unfitted => false | .disengaged => false | .idle => false
  | .leadIn => true | .numbering => true | .faulted => true

/-- Set kind codes. -/
def SetKind.code : SetKind → Nat
  | .regular => 0 | .remake => 1

/-- Record state codes. -/
def RecordState.code : RecordState → Nat
  | .opened => 0 | .voidPending => 1

/-- Ply status codes. -/
def PlyStatus.code : PlyStatus → Nat
  | .waiting => 0 | .loaded => 1 | .printed => 2 | .misfire => 3 | .skipped => 4 | .late => 5 | .faulted => 6
  | .spliced => 7 | .skewed => 8

/-- Marriage codes. -/
def Marriage.code : Marriage → Nat
  | .notYet => 0 | .married => 1 | .skewed => 2

/-- Verification codes. -/
def Verification.code : Verification → Nat
  | .notYet => 0 | .matched => 1 | .mismatch _ _ _ => 2 | .noread => 3 | .off => 4

/-- Mismatch class codes. -/
def SlipClass.code : SlipClass → Nat
  | .digits => 0 | .slipBehind => 1 | .slipAhead => 2

/-- Void cause codes. -/
def VoidCause.code : VoidCause → Nat
  | .hostCull => 1 | .gateSkew => 2 | .misfire => 3 | .skipped => 4 | .late => 5 | .faulted => 6 | .spliced => 7
  | .skewed => 8 | .unfinished => 9 | .marriageSkew => 10 | .unmarried => 11 | .mismatch => 12 | .noread => 13
  | .unverified => 14 | .remakeFull => 15 | .aborted => 16 | .powerLoss => 17 | .jumped => 18

/-- Entry state codes. -/
def EntryState.code : EntryState → Nat
  | .waiting => 0 | .inFlight => 1 | .doubt => 2 | .voidPending => 3

/-- Close reason codes. -/
def CloseReason.code : CloseReason → Nat
  | .size => 0 | .exceptions => 1 | .final => 2 | .aborted => 3

/-- Exception kind codes. -/
def ExceptionKind.code : ExceptionKind → Nat
  | .culled => 0 | .remade => 1 | .suspect => 2

/-- Exception disposition codes. -/
def ExceptionDisp.code : ExceptionDisp → Nat
  | .voided => 0 | .remake => 1 | .voidPending => 2 | .delivered => 3

/-- Last-reset codes. -/
def ResetKind.code : ResetKind → Nat
  | .powerOn => 0 | .rstn => 1 | .request => 2

/-- Report kind bytes (Table 84). -/
def ReportKind.code : ReportKind → Byte
  | .stop => 0xE0#8 | .suspect => 0xE1#8 | .monitorLimit => 0xE2#8
  | .state => 0xE8#8 | .bundle => 0xE9#8 | .logLow => 0xEA#8 | .line => 0xEB#8

/-- The report's class is ALERT (Table 80); otherwise it is NOTICE. -/
def ReportKind.alert : ReportKind → Bool
  | .stop => true | .suspect => true | .monitorLimit => true
  | .state => false | .bundle => false | .logLow => false | .line => false

/-! ### Counters, monitors and the low flag -/

/-- A counter's rise, held at the ceiling with the saturated indication (R143). -/
def Counter.raise (c : Counter) (n : Nat) : Counter :=
  if Config.counterCeiling < c.value + n then ⟨Config.counterCeiling, true⟩ else { c with value := c.value + n }

/-- A monitor's value and whether it fires, at a failure event (R16, R17). -/
def monitorFail (limit value : Nat) (prun : Bool) : Nat × Bool :=
  if limit = 0 then (value, false)
  else if prun then (if value + 1 = limit then (0, true) else (value + 1, false))
  else (value, false)

/-- The fill is such that the low flag stands (R134). -/
def fillLow (fill : Nat) : Bool := decide (Config.logSize - Config.lowFree < fill)

end Sys2Proof.Machine
end

