-- ==== Sys2Proof/Machine/Operands.lean ====
section
/-! DEFINITION. The operand forms: the payloads of requests and messages, the FORMAT test of the control link
(R186), and the ranges the owners test (R18, R38, R151, R152, R197). -/

namespace Sys2Proof.Machine
open Sys2Proof

/-! ### Number fields -/

/-- A number a request supplies (R196): its two series letters, or none for two spaces, and its serial's value. -/
structure Supplied where
  letters : Option (Byte × Byte)
  serial  : Nat
  deriving DecidableEq, Repr

/-- A capital letter A to Z. -/
def isCapital (b : Byte) : Bool := decide (0x41 ≤ b.toNat) && decide (b.toNat ≤ 0x5A)

/-- A decimal digit's ASCII code. -/
def isDigitChar (b : Byte) : Bool := decide (0x30 ≤ b.toNat) && decide (b.toNat ≤ 0x39)

/-- Both nibbles of a BCD byte are at most 9. -/
def bcdOk (b : Byte) : Bool := decide (b.toNat / 16 ≤ 9) && decide (b.toNat % 16 ≤ 9)

/-- The eight bytes at an offset form a number field (R186). -/
def numberFieldOk (pl : List Byte) (i : Nat) : Bool :=
  ((pl.getD i 0 == 0x20 && pl.getD (i + 1) 0 == 0x20)
      || (isCapital (pl.getD i 0) && isCapital (pl.getD (i + 1) 0)))
    && (List.range 5).all (fun k => bcdOk (pl.getD (i + 2 + k) 0))
    && (decide (u8 pl (i + 7) ≤ 10) || u8 pl (i + 7) == 0xFF)

/-- The value of two BCD digits. -/
def bcdValue (n : Nat) : Nat := n / 16 * 10 + n % 16

/-- The number supplied in the field at an offset (Table 87). -/
def suppliedAt (pl : List Byte) (i : Nat) : Supplied where
  letters := if pl.getD i 0 == 0x20 && pl.getD (i + 1) 0 == 0x20 then none
    else some (pl.getD i 0, pl.getD (i + 1) 0)
  serial := (List.range 5).foldl (fun acc k => acc * 100 + bcdValue (u8 pl (i + 2 + k))) 0

/-- The series ordinal a supplied number has in a job, none where it names no number of the job's space (R196). -/
def Scheme.suppliedSeries (c : Scheme) (x : Supplied) : Option (Option Nat) :=
  match c.seriesOn, x.letters with
  | false, none => some none
  | false, some _ => none
  | true, none => none
  | true, some (a, b) => (seriesOrdinal a b).map some

/-- The supplied number as a number of the job's space, if it belongs to it (R18, R196). -/
def Scheme.member (c : Scheme) (x : Supplied) : Option Num :=
  match c.suppliedSeries x with
  | none => none
  | some o =>
    if c.base ≤ x.serial ∧ x.serial < 10 ^ c.width then some ⟨o, x.serial, c.checkOf x.serial⟩ else none

/-! ### FORMAT -/

/-- The payload has the form its kind requires (R186, R197, R201). -/
def formatOk (k : RequestKind) (pl : List Byte) : Bool :=
  match k with
  | .ident => pl.length == 0
  | .status => pl.length == 0
  | .reset => pl.length == 0
  | .setLines => pl.length == 21
  | .setGeometry => pl.length == 12
  | .setScheme => pl.length == 24 && numberFieldOk pl 5
  | .setFormat => decide (2 ≤ pl.length) && decide (u8 pl 1 ≤ 3) && pl.length == 6 + u8 pl 1
  | .setPolicy => pl.length == 12
  | .commit => pl.length == 0
  | .start => pl.length == 0
  | .hold => pl.length == 0
  | .release => pl.length == 0
  | .abort => pl.length == 0
  | .close => pl.length == 0
  | .jumpIf => pl.length == 17 && numberFieldOk pl 1 && numberFieldOk pl 9
  | .recover => pl.length == 1
  | .stopClear => pl.length == 3
  | .rowRead => pl.length == 4
  | .cull =>
    (pl.length == 7 && u8 pl 0 == 0) || (pl.length == 10 && u8 pl 0 == 1 && numberFieldOk pl 1)
  | .headResume => pl.length == 1
  | .readerResume => pl.length == 0
  | .gateResume => pl.length == 0
  | .manifestRead => pl.length == 2
  | .manifestFree => pl.length == 1
  | .logRead => pl.length == 3
  | .logFree => pl.length == 2
  | .remakeRead => pl.length == 2
  | .counts => pl.length == 0

/-- The supervisor requests (Table 78, Section 7). -/
def supervisorOnly : RequestKind → Bool
  | .reset => true | .setLines => true | .setGeometry => true | .setScheme => true | .setFormat => true
  | .setPolicy => true | .commit => true | .abort => true | .close => true | .jumpIf => true | .recover => true
  | .ident => false | .status => false | .start => false | .hold => false | .release => false
  | .stopClear => false | .rowRead => false | .cull => false | .headResume => false | .readerResume => false
  | .gateResume => false | .manifestRead => false | .manifestFree => false | .logRead => false
  | .logFree => false | .remakeRead => false | .counts => false

/-! ### Enumerated fields (R197) -/

/-- A yes-or-no byte (R197). -/
def boolCode (n : Nat) : Option Bool := [false, true][n]?
/-- Direction codes (R197). -/
def directionCode (n : Nat) : Option Direction := [Direction.ascending, .descending][n]?
/-- Check method codes (R197). -/
def methodCode (n : Nat) : Option CheckMethod := [CheckMethod.none, .mod7, .mod10w, .mod11x, .mod11s][n]?
/-- Lane mode codes (R197). -/
def modeCode (n : Nat) : Option LaneMode := [LaneMode.consecutive, .split, .rep][n]?
/-- Zero mode codes. -/
def zeroCode (n : Nat) : Option ZeroMode := [ZeroMode.zeros, .blanks][n]?
/-- Separator codes. -/
def separatorCode (n : Nat) : Option Separator := [Separator.none, .hyphen, .space][n]?
/-- Cull policy codes. -/
def cullPolicyCode (n : Nat) : Option CullPolicy := [CullPolicy.void, .remake][n]?
/-- Unverified policy codes. -/
def unverifiedCode (n : Nat) : Option UnverifiedPolicy := [UnverifiedPolicy.deliver, .cull][n]?
/-- Monitor action codes (R201). -/
def actionCode (n : Nat) : Option MonitorAction := [MonitorAction.report, .stop][n]?
/-- Debounce codes (R197). -/
def debounceCode (n : Nat) : Option Debounce := [Debounce.off, .ms2, .ms20][n]?

/-- A ply set read from a byte; none where a bit above bit 5 is set (R197). -/
def plySetOf (n : Nat) : Option (PerPly Bool) :=
  if n < 64 then some (PerPly.ofFn fun p => bitOf n (p.number - 1)) else none

/-- A lane set read from a byte; none where a bit above bit 2 is set, or where it is empty (R97, R197). -/
def maskOf (n : Nat) : Option LaneSet :=
  if 0 < n ∧ n < 8 then some ⟨bitOf n 0, bitOf n 1, bitOf n 2⟩ else none

/-- Lane j, from 1, is in the set. -/
def LaneSet.has (m : LaneSet) (j : Nat) : Bool :=
  (j == 1 && m.lane1) || (j == 2 && m.lane2) || (j == 3 && m.lane3)

/-- Every lane of the set is at most L (check C5). -/
def LaneSet.within (m : LaneSet) (l : Nat) : Bool :=
  (!m.lane1 || decide (1 ≤ l)) && (!m.lane2 || decide (2 ≤ l)) && (!m.lane3 || decide (3 ≤ l))

/-! ### Definition blocks and line settings -/

/-- Every geometry field is in its range (Table 64). -/
def Geometry.inRange (g : Geometry) : Bool :=
  Ply.all.all (fun p => decide (1 ≤ g.dist.get p) && decide (g.dist.get p ≤ 200))
    && decide (1 ≤ g.readerV) && decide (g.readerV ≤ 16) && decide (2 ≤ g.gateG) && decide (g.gateG ≤ 40)
    && decide (1 ≤ g.timeoutT) && decide (g.timeoutT ≤ 8) && decide (g.beforeB ≤ 15) && decide (g.afterA ≤ 15)

/-- The geometry block of a SET_GEOMETRY payload (R201); none is RANGE (R151). -/
def Geometry.ofPayload (pl : List Byte) : Option Geometry :=
  match plySetOf (u8 pl 0) with
  | none => none
  | some e =>
    let g : Geometry :=
      { engaged := e, dist := PerPly.ofFn fun p => u8 pl p.number, readerV := u8 pl 7, gateG := u8 pl 8,
        timeoutT := u8 pl 9, beforeB := u8 pl 10, afterA := u8 pl 11 }
    if g.inRange then some g else none

/-- The start series of a SET_SCHEME payload; none is RANGE. With series off the field is not examined (R18). -/
def startSeriesOf (seriesOn : Bool) (x : Supplied) : Option (Option Nat) :=
  if seriesOn then
    match x.letters with
    | none => some none
    | some (a, b) => (seriesOrdinal a b).map some
  else some none

/-- Every scheme field is in its range (Table 16). -/
def Scheme.inRange (c : Scheme) : Bool :=
  decide (4 ≤ c.width) && decide (c.width ≤ 9) && decide (c.base ≤ 1) && decide (c.startSerial < 10 ^ c.width)
    && decide (1 ≤ c.stepK) && decide (c.stepK ≤ 99) && decide (1 ≤ c.lanes) && decide (c.lanes ≤ 3)
    && decide (1 ≤ c.quantity) && decide (c.quantity ≤ 9999999)

/-- The scheme block of a SET_SCHEME payload (R201); none is RANGE (R18). -/
def Scheme.ofPayload (pl : List Byte) : Option Scheme :=
  match boolCode (u8 pl 4), directionCode (u8 pl 16), methodCode (u8 pl 17), modeCode (u8 pl 19) with
  | some on, some d, some m, some lm =>
    match startSeriesOf on (suppliedAt pl 5) with
    | none => none
    | some ser =>
      let c : Scheme :=
        { jobId := u32 pl 0, seriesOn := on, startSeries := ser, width := u8 pl 13, base := u8 pl 14,
          startSerial := (suppliedAt pl 5).serial, stepK := u8 pl 15, dir := d, method := m, lanes := u8 pl 18,
          mode := lm, quantity := u32 pl 20 }
      if c.inRange then some c else none
  | _, _, _, _ => none

/-- A character a format's leading string may hold: A to Z, 0 to 9 or hyphen (R38). -/
def leadCharOk (b : Byte) : Bool := isCapital b || isDigitChar b || b == 0x2D

/-- The format block of a SET_FORMAT payload, with its ply (R201); none is RANGE (R38). -/
def Format.ofPayload (pl : List Byte) : Option (Ply × Format) :=
  let n := u8 pl 1
  match Ply.ofNumber (u8 pl 0), boolCode (u8 pl (2 + n)), zeroCode (u8 pl (3 + n)), separatorCode (u8 pl (4 + n)),
    boolCode (u8 pl (5 + n)) with
  | some p, some ss, some z, some sep, some sc =>
    if ((pl.drop 2).take n).all leadCharOk then
      some (p, { lead := (pl.drop 2).take n, showSeries := ss, zeroMode := z, separator := sep, showCheck := sc })
    else none
  | _, _, _, _, _ => none

/-- Every policy field is in its range (Table 65). -/
def Policy.inRange (q : Policy) : Bool :=
  decide (1 ≤ q.attemptLimit) && decide (q.attemptLimit ≤ 3) && decide (10 ≤ q.bundleSize)
    && decide (q.bundleSize ≤ 5000) && decide (10 ≤ q.jogWidth) && decide (q.jogWidth ≤ 200)
    && decide (q.readFailLimit ≤ 63) && decide (q.spoilLimit ≤ 63)

/-- The policy block of a SET_POLICY payload (R201); none is RANGE (R152). -/
def Policy.ofPayload (pl : List Byte) : Option Policy :=
  match cullPolicyCode (u8 pl 0), boolCode (u8 pl 5), maskOf (u8 pl 6), unverifiedCode (u8 pl 7),
    actionCode (u8 pl 9), actionCode (u8 pl 11) with
  | some cp, some v, some m, some un, some ra, some sa =>
    let q : Policy :=
      { cullPolicy := cp, attemptLimit := u8 pl 1, bundleSize := u16 pl 2, jogWidth := u8 pl 4, verify := v,
        mask := m, unverified := un, readFailLimit := u8 pl 8, readFailAct := ra, spoilLimit := u8 pl 10,
        spoilAct := sa }
    if q.inRange then some q else none
  | _, _, _, _, _, _ => none

/-- Where a line's two bytes stand in a SET_LINES payload (R201). -/
def lineOffset : LineId → Nat
  | .prun => 0 | .key => 2 | .wbrk => 4 | .spl p => 4 + 2 * p.number

/-- One line's setting in a SET_LINES payload; none is RANGE. -/
def lineSettingAt (pl : List Byte) (l : LineId) : Option LineSetting :=
  match boolCode (u8 pl (lineOffset l)), debounceCode (u8 pl (lineOffset l + 1)) with
  | some low, some d => some ⟨low, d⟩
  | _, _ => none

/-- The settings of a SET_LINES payload (R201); none is RANGE (R15). -/
def LineSettings.ofPayload (pl : List Byte) : Option LineSettings :=
  match boolCode (u8 pl 18), boolCode (u8 pl 19), boolCode (u8 pl 20) with
  | some a, some b, some c =>
    if LineId.all.all fun l => (lineSettingAt pl l).isSome then
      some
        { lines := PerLine.ofFn fun l => (lineSettingAt pl l).getD ⟨false, .off⟩
          reportPrun := a, reportKey := b, reportWbrk := c }
    else none
  | _, _, _ => none

/-! ### Messages of the heads and the reader (R198) -/

/-- A well-formed message of a head link. -/
inductive HeadMessage where
  | done (tag : Nat) (misfire : Bool)
  | headfault (code : Nat)
  deriving DecidableEq, Repr

/-- A head-link message read; none is malformed (R68, R198). -/
def HeadMessage.ofFrame (kind : Byte) (pl : List Byte) : Option HeadMessage :=
  if kind = 0xC1#8 then
    if pl.length = 2 ∧ u8 pl 0 ≤ 3 ∧ u8 pl 1 ≤ 1 then some (.done (u8 pl 0) (u8 pl 1 == 1)) else none
  else if kind = 0xC2#8 then
    if pl.length = 1 ∧ u8 pl 0 ≠ 0 then some (.headfault (u8 pl 0)) else none
  else none

/-- A lane's entry of a RESULT: the string read, or none for NOREAD (R89). -/
abbrev LaneEntry := Option (List Byte)

/-- A well-formed message of the reader port. -/
inductive ReaderMessage where
  | result (lanes : List LaneEntry)
  | readerfault (code : Nat)
  deriving DecidableEq, Repr

/-- A printable character (R89). -/
def printable (b : Byte) : Bool := decide (0x20 ≤ b.toNat) && decide (b.toNat ≤ 0x7E)

/-- The walk over n lane entries of a RESULT, which must end with the payload; none is malformed (R198). -/
def walkLanes : Nat → List Byte → Option (List LaneEntry)
  | 0, [] => some []
  | 0, _ :: _ => none
  | _ + 1, [] => none
  | n + 1, len :: rest =>
    if len = 0xFF#8 then (walkLanes n rest).map (none :: ·)
    else if len.toNat ≤ 16 ∧ len.toNat ≤ rest.length ∧ (rest.take len.toNat).all printable then
      (walkLanes n (rest.drop len.toNat)).map (some (rest.take len.toNat) :: ·)
    else none

/-- A reader-port message read, for a job of L lanes; none is malformed (R89, R198). -/
def ReaderMessage.ofFrame (lanes : Nat) (kind : Byte) (pl : List Byte) : Option ReaderMessage :=
  if kind = 0xD1#8 then
    match pl with
    | [] => none
    | n :: rest => if n.toNat = lanes then (walkLanes lanes rest).map .result else none
  else if kind = 0xD2#8 then
    if pl.length = 1 ∧ u8 pl 0 ≠ 0 then some (.readerfault (u8 pl 0)) else none
  else none

end Sys2Proof.Machine
end

