-- ==== Sys2Proof/Machine/Layouts.lean ====
section
/-! DEFINITION. How numbers, records, blocks, replies and reports are written in frames (Chapter 11). -/

namespace Sys2Proof.Machine
open Sys2Proof

/-! ### Common fields -/

/-- Two BCD digits as a byte. -/
def bcdByte (n : Nat) : Byte := byte (n / 10 * 16 + n % 10)

/-- The five serial bytes of a number field (Table 87). -/
def serialBytes (n : Nat) : List Byte :=
  [bcdByte (n / 100000000 % 100), bcdByte (n / 1000000 % 100), bcdByte (n / 10000 % 100), bcdByte (n / 100 % 100),
   bcdByte (n % 100)]

/-- The check byte of a number field (Table 87). -/
def checkByte : Option Nat → Byte
  | some c => byte c
  | none => 0xFF#8

/-- The series bytes of a number field (R196). -/
def seriesBytes : Option Nat → List Byte
  | some o => seriesLetters o
  | none => [0x20#8, 0x20#8]

/-- A number field (Table 87). -/
def numField (n : Num) : List Byte := seriesBytes n.series ++ serialBytes n.serial ++ [checkByte n.check]

/-- A number field where the record holds none (R196). -/
def noNumber : List Byte := List.replicate 8 0xFF#8

/-- A number field that may hold none. -/
def numFieldOr (n : Option Num) : List Byte := n.elim noNumber numField

/-- Three number fields, lanes 1 to 3 (Tables 92 and 93). -/
def threeNumbers (ns : List Num) : List Byte := numFieldOr ns[0]? ++ numFieldOr ns[1]? ++ numFieldOr ns[2]?

/-- A mark field; none is a mark that is absent (R195). -/
def markField : Option Mark → List Byte
  | some (.item n) => 0x00#8 :: numField n
  | some .atEnd => 0x01#8 :: noNumber
  | none => 0x02#8 :: noNumber

/-- A ply set as a byte (Section 11.3). -/
def plySetByte (v : PerPly Bool) : Byte := byte (bitsByte v.toList)

/-- A lane set as a byte (Section 11.3). -/
def laneSetByte (m : LaneSet) : Byte := byte (bitsByte [m.lane1, m.lane2, m.lane3])

/-! ### Definition blocks (R201) -/

/-- A debounce code. -/
def Debounce.code : Debounce → Nat
  | .off => 0 | .ms2 => 1 | .ms20 => 2

/-- The 21 bytes of the line settings. -/
def LineSettings.bytes (x : LineSettings) : List Byte :=
  (LineId.all.map fun l => [flagByte (x.lines.get l).activeLow, byte (x.lines.get l).debounce.code]).flatten
    ++ [flagByte x.reportPrun, flagByte x.reportKey, flagByte x.reportWbrk]

/-- The 12 bytes of the geometry block. -/
def Geometry.bytes (g : Geometry) : List Byte :=
  plySetByte g.engaged :: (g.dist.toList.map byte
    ++ [byte g.readerV, byte g.gateG, byte g.timeoutT, byte g.beforeB, byte g.afterA])

/-- Direction code. -/
def Direction.code : Direction → Nat
  | .ascending => 0 | .descending => 1

/-- Check method code. -/
def CheckMethod.code : CheckMethod → Nat
  | .none => 0 | .mod7 => 1 | .mod10w => 2 | .mod11x => 3 | .mod11s => 4

/-- Lane mode code. -/
def LaneMode.code : LaneMode → Nat
  | .consecutive => 0 | .split => 1 | .rep => 2

/-- The 24 bytes of the scheme block, with the check byte its number field is given. -/
def Scheme.bytes (c : Scheme) (chk : Byte) : List Byte :=
  be32 c.jobId ++ [flagByte c.seriesOn] ++ seriesBytes c.startSeries ++ serialBytes c.startSerial
    ++ [chk, byte c.width, byte c.base, byte c.stepK, byte c.dir.code, byte c.method.code, byte c.lanes,
        byte c.mode.code]
    ++ be32 c.quantity

/-- Zero mode code. -/
def ZeroMode.code : ZeroMode → Nat
  | .zeros => 0 | .blanks => 1

/-- Separator code. -/
def Separator.code : Separator → Nat
  | .none => 0 | .hyphen => 1 | .space => 2

/-- The 6 to 9 bytes of a format block with its ply. -/
def Format.bytes (p : Ply) (f : Format) : List Byte :=
  [byte p.number, byte f.lead.length] ++ f.lead
    ++ [flagByte f.showSeries, byte f.zeroMode.code, byte f.separator.code, flagByte f.showCheck]

/-- Cull policy code. -/
def CullPolicy.code : CullPolicy → Nat
  | .void => 0 | .remake => 1

/-- Unverified policy code. -/
def UnverifiedPolicy.code : UnverifiedPolicy → Nat
  | .deliver => 0 | .cull => 1

/-- Monitor action code. -/
def MonitorAction.code : MonitorAction → Nat
  | .report => 0 | .stop => 1

/-- The 12 bytes of the policy block. -/
def Policy.bytes (q : Policy) : List Byte :=
  [byte q.cullPolicy.code, byte q.attemptLimit] ++ be16 q.bundleSize
    ++ [byte q.jogWidth, flagByte q.verify, laneSetByte q.mask, byte q.unverified.code, byte q.readFailLimit,
        byte q.readFailAct.code, byte q.spoilLimit, byte q.spoilAct.code]

/-! ### Central records -/

/-- A void record, 24 bytes (Table 91). -/
def VoidRecord.bytes (r : VoidRecord) : List Byte :=
  numField r.number
    ++ [byte r.lane, byte r.cause.code, byte (bitsByte [r.setIndex.isSome, r.exhausted, r.rangeLast.isSome]),
        byte r.attempts]
    ++ be32 (r.setIndex.getD 0) ++ numFieldOr r.rangeLast

/-- A cause that may be absent, 0 when it is. -/
def causeByte (c : Option VoidCause) : Byte := byte (c.elim 0 VoidCause.code)

/-- A remake register entry, 38 bytes (Table 92). -/
def RemakeEntry.bytes (e : RemakeEntry) : List Byte :=
  be32 e.number
    ++ [byte e.state.code, byte e.attempts, byte e.firstCause.code, causeByte e.pendingCause,
        byte (bitsByte [e.setIndex.isSome, e.exhausted])]
    ++ be32 (e.setIndex.getD 0) ++ [byte e.numbers.length] ++ threeNumbers e.numbers

/-- The lane, position and class bytes of a verification; 0 unless MISMATCH (Table 93). -/
def Verification.detail : Verification → List Byte
  | .mismatch l p c => [byte l, byte p, byte c.code]
  | _ => [0, 0, 0]

/-- A set record's view from its set index on, 49 bytes (Table 93). -/
def SetRecord.view (r : SetRecord) : List Byte :=
  be32 r.index ++ [byte r.kind.code, byte r.state.code, byte r.numbers.length] ++ threeNumbers r.numbers
    ++ be32 (r.entry.getD 0) ++ [byte r.attempt]
    ++ r.plies.toList.map (fun p => p.elim 0xFF#8 fun st => byte st.code)
    ++ [byte r.marriage.code, byte r.verification.code] ++ r.verification.detail
    ++ [flagByte r.hostCull, causeByte r.pendingCause]

/-- The view built from a pending-void row: statuses not known are 0xFE (R59, R199). -/
def PendingRow.view (i : Nat) (r : PendingRow) : List Byte :=
  be32 i ++ [byte SetKind.regular.code, byte RecordState.voidPending.code, byte r.numbers.length]
    ++ threeNumbers (r.numbers.map (·.1)) ++ be32 0 ++ [0#8] ++ List.replicate 6 0xFE#8
    ++ [0xFE#8, 0xFE#8, 0#8, 0#8, 0#8] ++ [0#8, byte r.cause.code]

/-- A manifest's header, 9 + 16L bytes (Table 94). -/
def Manifest.headerBytes (m : Manifest) : List Byte :=
  be32 m.bundle
    ++ [byte (m.reason.code + (if m.oversize then 4 else 0) + (if m.incomplete then 8 else 0))]
    ++ be16 m.sets ++ [flagByte (m.firsts.any Option.isSome), byte m.exceptions.length]
    ++ ((m.firsts.zip m.lasts).map fun x => numFieldOr x.1 ++ numFieldOr x.2).flatten

/-- An exception entry, 5 + 8n bytes (Table 95). -/
def BundleException.bytes (e : BundleException) : List Byte :=
  be32 e.setIndex ++ [byte (e.kind.code + 16 * e.disposition.code)] ++ (e.numbers.map numField).flatten

/-- A LOAD payload (Table 90). -/
def loadPayload (tag : Nat) (strings : List (List Byte)) : List Byte :=
  byte tag :: byte strings.length :: (strings.map fun s => byte s.length :: s).flatten

/-! ### Reports (R200) -/

/-- STOP: the cause's code and the set after the latch. -/
def stopReport (c : StopCause) (s : StopSet) : Report := ⟨.stop, byte c.code :: s.bytes⟩

/-- SUSPECT: set index, numbers, bundle number, source 0 for SPLICE and 1 for LATE_RESULT. -/
def suspectReport (index : Nat) (ns : List Num) (bundle : Nat) (late : Bool) : Report :=
  ⟨.suspect, be32 index ++ [byte ns.length] ++ (ns.map numField).flatten ++ be32 bundle ++ [flagByte late]⟩

/-- MONITOR_LIMIT: the monitor, 0 for read-fail and 1 for spoil-run, and its limit. -/
def monitorReport (spoil : Bool) (limit : Nat) : Report := ⟨.monitorLimit, [flagByte spoil, byte limit]⟩

/-- STATE: new state, state left, hold causes after the change. -/
def stateReport (new old : JobState) (h : HoldSet) : Report := ⟨.state, [byte new.code, byte old.code, h.byte]⟩

/-- BUNDLE: bundle number, close reason, sets delivered. -/
def bundleReport (b : OpenBundle) (r : CloseReason) : Report :=
  ⟨.bundle, be32 b.number ++ [byte r.code] ++ be16 b.sets⟩

/-- LOG_LOW: the fill. -/
def logLowReport (fill : Nat) : Report := ⟨.logLow, be16 fill⟩

/-- LINE: the line's code and its new level. -/
def lineReport (code : Nat) (level : Bool) : Report := ⟨.line, [byte code, flagByte level]⟩

/-- The frame of a report: tag 0 (R189). -/
def Report.frame (r : Report) : CtlFrame := ⟨r.kind.code, 0, r.payload⟩

end Sys2Proof.Machine
end

