-- ==== Sys2Proof/Machine/Ops.lean ====
section
/-! DEFINITION. The operations every block shares: writing one part of the state, reports, job state changes, hold
and stop causes, accounting writes, the run monitors (R14, R16, R17, R148, R157, R166, R170, R189 to R191). -/

namespace Sys2Proof.Machine
open Sys2Proof

/-! ### Writing one part of the state -/

/-- Accounting memory rewritten. -/
def State.mapAcct (s : State) (f : Accounting → Accounting) : State := { s with acct := f s.acct }
/-- The continuity header rewritten. -/
def State.mapHeader (s : State) (f : Header → Header) : State :=
  { s with acct := { s.acct with header := f s.acct.header } }
/-- The counters rewritten. -/
def State.mapCounters (s : State) (f : Counters → Counters) : State :=
  { s with acct := { s.acct with counters := f s.acct.counters } }
/-- The control link rewritten. -/
def State.mapLink (s : State) (f : Link → Link) : State := { s with link := f s.link }
/-- The station tracker rewritten. -/
def State.mapTracker (s : State) (f : Tracker → Tracker) : State := { s with tracker := f s.tracker }
/-- The set table rewritten. -/
def State.mapTable (s : State) (f : SetTable → SetTable) : State := { s with table := f s.table }
/-- Head channel p rewritten. -/
def State.mapHead (s : State) (p : Ply) (f : Channel → Channel) : State :=
  { s with heads := s.heads.set p (f (s.heads.get p)) }
/-- The verification unit rewritten. -/
def State.mapReader (s : State) (f : Reader → Reader) : State := { s with reader := f s.reader }
/-- The gate unit rewritten. -/
def State.mapGate (s : State) (f : Gate → Gate) : State := { s with gate := f s.gate }
/-- The job controller's causes rewritten. -/
def State.mapControl (s : State) (f : Control → Control) : State := { s with control := f s.control }

/-- The job state. -/
def State.jobState (s : State) : JobState := s.acct.header.jobState
/-- The committed scheme. -/
def State.scheme (s : State) : Scheme := s.acct.job.scheme
/-- The job's policy. -/
def State.policy (s : State) : Policy := s.acct.job.policy
/-- Ply p is engaged by the job definition. -/
def State.engaged (s : State) (p : Ply) : Bool := s.acct.job.geometry.engaged.get p
/-- PRUN's conditioned level is active. -/
def State.prun (s : State) : Bool := s.lines.conditioned.prun
/-- KEY's conditioned level is active. -/
def State.key (s : State) : Bool := s.lines.conditioned.key
/-- The remaining quantity (R35). -/
def State.remaining (s : State) : Nat := s.scheme.quantity - s.acct.counters.setsRegular.value

/-! ### Accounting writes -/

/-- The end of one accounting write: what accounting memory holds now joins the journal (R170). -/
def endWrite (s : State) : State := { s with journal := s.acct :: s.journal }

/-- A step begins: no write of an earlier step can be lost any more (R170). -/
def openJournal (s : State) : State := { s with journal := [s.acct] }

/-- Accounting memory with the last `lost` writes of the last step absent (R170). -/
def State.acctLosing (s : State) (lost : Nat) : Accounting :=
  match s.journal.drop lost with
  | a :: _ => if lost = 0 then s.acct else a
  | [] => s.journal.getLast?.getD s.acct

/-! ### Reports -/

/-- The queue without its youngest NOTICE, if it holds one (R191); the argument lists the youngest report first. -/
def dropYoungestNotice : List Report → Option (List Report)
  | [] => none
  | r :: rs => if r.kind.alert then (dropYoungestNotice rs).map (r :: ·) else some rs

/-- A report joins the queue; in a full queue a NOTICE is dropped, and an ALERT displaces the youngest NOTICE or is
dropped; either case sets the reports-lost flag (R190, R191). -/
def Link.addReport (l : Link) (r : Report) : Link :=
  if l.reports.length < Config.reportQueueSize then { l with reports := l.reports ++ [r] }
  else if r.kind.alert then
    match dropYoungestNotice l.reports.reverse with
    | some rs => { l with reports := rs.reverse ++ [r], reportsLost := true }
    | none => { l with reportsLost := true }
  else { l with reportsLost := true }

/-- A block raises a report (R189). -/
def raiseReport (r : Report) (s : State) : State := s.mapLink fun l => l.addReport r

/-! ### Job state and hold causes -/

/-- The job state changes, and the STATE report is raised (R148). -/
def changeJob (j : JobState) (s : State) : State :=
  raiseReport (stateReport j s.jobState s.control.holds) (s.mapHeader fun h => { h with jobState := j })

/-- A hold cause put into or taken out of the set. -/
def setHold (c : HoldCause) (b : Bool) (s : State) : State :=
  s.mapControl fun k => { k with holds := k.holds.put c b }

/-- A hold cause is raised: in RUNNING and DRAINING the job enters HOLD with the state left as its saved return
state; in HOLD the cause joins the set; in any other state nothing is raised (R157). -/
def raiseHold (c : HoldCause) (s : State) : State :=
  match s.jobState with
  | .running =>
    changeJob .hold ((setHold c true s).mapHeader fun h => { h with savedReturn := some .running })
  | .draining =>
    changeJob .hold ((setHold c true s).mapHeader fun h => { h with savedReturn := some .draining })
  | .hold => setHold c true s
  | .idle => s | .loaded => s | .complete => s | .aborted => s | .recovery => s | .resumable => s

/-- A hold cause is withdrawn; the job stays in HOLD (R157). -/
def withdrawHold (c : HoldCause) (s : State) : State := setHold c false s

/-! ### Stop causes -/

/-- A request to latch a stop cause: latched with a STOP report if it was not latched (R166). -/
def latch (c : StopCause) (s : State) : State :=
  if s.control.stops.has c then s
  else raiseReport (stopReport c (s.control.stops.put c true))
    (s.mapControl fun k => { k with stops := k.stops.put c true })

/-- A stop cause is cleared (R166). -/
def unlatch (c : StopCause) (s : State) : State := s.mapControl fun k => { k with stops := k.stops.put c false }

/-! ### Run monitors -/

/-- A monitor fires: MONITOR_LIMIT report, then its stop cause if its action is STOP (R17). -/
def monitorFires (spoil : Bool) (limit : Nat) (act : MonitorAction) (s : State) : State :=
  let s1 := raiseReport (monitorReport spoil limit) s
  match act with
  | .report => s1
  | .stop => latch (if spoil then .spoilRun else .readFail) s1

/-- An event of the read-fail monitor (R16, R98). -/
def readFailEvent (failure : Bool) (s : State) : State :=
  if failure then
    let x := monitorFail s.policy.readFailLimit s.reader.readFail s.prun
    let s1 := s.mapReader fun r => { r with readFail := x.1 }
    if x.2 then monitorFires false s.policy.readFailLimit s.policy.readFailAct s1 else s1
  else s.mapReader fun r => { r with readFail := 0 }

/-- An event of the spoil-run monitor (R16, R114). -/
def spoilEvent (failure : Bool) (s : State) : State :=
  if failure then
    let x := monitorFail s.policy.spoilLimit s.gate.spoilRun s.prun
    let s1 := s.mapGate fun g => { g with spoilRun := x.1 }
    if x.2 then monitorFires true s.policy.spoilLimit s.policy.spoilAct s1 else s1
  else s.mapGate fun g => { g with spoilRun := 0 }

/-! ### Stations -/

/-- The state of a station of the tracker. -/
def Tracker.get (t : Tracker) : StationId → Station
  | .head p => t.heads.get p | .marriage => t.marriage | .reader => t.reader | .gate => t.gate

/-- A station of the tracker replaced. -/
def Tracker.set (t : Tracker) (i : StationId) (x : Station) : Tracker :=
  match i with
  | .head p => { t with heads := t.heads.set p x }
  | .marriage => { t with marriage := x }
  | .reader => { t with reader := x }
  | .gate => { t with gate := x }

/-- The nine stations in the order of the STATUS reply (Table 96). -/
def StationId.all : List StationId := Ply.all.map StationId.head ++ [.marriage, .reader, .gate]

/-- Every station becomes INACTIVE; counts, flags and delays are kept (R6, R11). -/
def Tracker.leaveJob (t : Tracker) : Tracker where
  heads := PerPly.ofFn fun p => { t.heads.get p with state := .inactive }
  marriage := { t.marriage with state := .inactive }
  reader := { t.reader with state := .inactive }
  gate := { t.gate with state := .inactive }

/-- A running channel leaves the run: IDLE, queue empty, after-count 0, cause and code cleared (R83, R84). -/
def Channel.leaveJob (c : Channel) : Channel :=
  if c.state.runs then { c with state := .idle, queue := [], afterCount := 0, cause := none, code := 0 } else c

/-- The blocks at entry to COMPLETE or ABORTED: stations INACTIVE (R6), channels IDLE (R83, R84), reader IDLE with an
empty queue (R103), DIVERT asserted (R109). -/
def stopRun (s : State) : State :=
  { s with
    tracker := s.tracker.leaveJob
    heads := PerPly.ofFn fun p => (s.heads.get p).leaveJob
    reader := { s.reader with state := .idle, queue := [] }
    gate := { s.gate with divert := true } }

/-- Each fitted channel outside a run is IDLE if the job definition engages its ply, otherwise DISENGAGED (R66). -/
def refreshChannels (s : State) : State :=
  { s with
    heads := PerPly.ofFn fun p =>
      match (s.heads.get p).state with
      | .idle => { s.heads.get p with state := if s.engaged p then .idle else .disengaged }
      | .disengaged => { s.heads.get p with state := if s.engaged p then .idle else .disengaged }
      | .unfitted => s.heads.get p
      | .leadIn => s.heads.get p
      | .numbering => s.heads.get p
      | .faulted => s.heads.get p }

end Sys2Proof.Machine
end

