-- ==== Sys2Proof/Machine/Table.lean ====
section
/-! DEFINITION. The set table: the ring's canonical form, lookups, updates (R42 to R55). -/

namespace Sys2Proof.Machine
open Sys2Proof

/-! ### The ring -/

/-- The set index a slot is tagged with (R42). -/
def Slot.index : Slot → Nat
  | .record r => r.index
  | .trace t => t.index

/-- The slot number of a set index (R42). -/
def slotOf (i : Nat) : Nat := i % Config.ringSize

/-- What a slot number holds (none is EMPTY). -/
def findSlot (k : Nat) : List Slot → Option Slot
  | [] => none
  | x :: xs => if slotOf x.index = k then some x else findSlot k xs

/-- A slot's content replaced, the list kept by rising slot number. -/
def putSlot (x : Slot) : List Slot → List Slot
  | [] => [x]
  | y :: ys =>
    if slotOf x.index < slotOf y.index then x :: y :: ys
    else if slotOf x.index = slotOf y.index then x :: ys
    else y :: putSlot x ys

/-- A slot made EMPTY. -/
def clearSlot (k : Nat) (xs : List Slot) : List Slot := xs.filter fun x => slotOf x.index != k

/-- Slot numbers strictly rise. -/
def slotsRise : List Slot → Bool
  | [] => true
  | [_] => true
  | x :: y :: ys => decide (slotOf x.index < slotOf y.index) && slotsRise (y :: ys)

/-- The ring is in its canonical form: each slot at most once, by rising slot number (R42). -/
def SetTable.wf (t : SetTable) : Bool := slotsRise t.slots

/-- The records in slots, OPEN and VOID_PENDING. -/
def SetTable.records (t : SetTable) : List SetRecord :=
  t.slots.filterMap fun x => match x with | .record r => some r | .trace _ => none

/-- The retirement traces in slots. -/
def SetTable.traces (t : SetTable) : List Trace :=
  t.slots.filterMap fun x => match x with | .record _ => none | .trace u => some u

/-- The table fill: the count of records in slots (R42). -/
def SetTable.fill (t : SetTable) : Nat := t.records.length

/-- The record tagged i, if slot i mod 256 holds one. -/
def SetTable.recordAt (t : SetTable) (i : Nat) : Option SetRecord :=
  match findSlot (slotOf i) t.slots with
  | some (.record r) => if r.index = i then some r else none
  | _ => none

/-- The OPEN record tagged i. -/
def SetTable.openAt (t : SetTable) (i : Nat) : Option SetRecord :=
  match t.recordAt i with
  | some r => if r.state = .opened then some r else none
  | none => none

/-- The trace tagged i. -/
def SetTable.traceAt (t : SetTable) (i : Nat) : Option Trace :=
  match findSlot (slotOf i) t.slots with
  | some (.trace u) => if u.index = i then some u else none
  | _ => none

/-- A record put into its slot. -/
def SetTable.putRecord (t : SetTable) (r : SetRecord) : SetTable := { t with slots := putSlot (.record r) t.slots }

/-- A trace put into its slot in place of what the slot held (R44). -/
def SetTable.putTrace (t : SetTable) (u : Trace) : SetTable := { t with slots := putSlot (.trace u) t.slots }

/-- A set index inserted into a rising list. -/
def insertIndex (i : Nat) : List Nat → List Nat
  | [] => [i]
  | j :: js => if i ≤ j then i :: j :: js else j :: insertIndex i js

/-- Set indices in increasing order. -/
def sortIndices (is : List Nat) : List Nat := is.foldr insertIndex []

/-- The indices of the OPEN records, in increasing order. -/
def SetTable.openIndices (t : SetTable) : List Nat :=
  sortIndices ((t.records.filter fun r => r.state == .opened).map (·.index))

/-- The indices of all records, in increasing order. -/
def SetTable.recordIndices (t : SetTable) : List Nat := sortIndices (t.records.map (·.index))

/-- The lap limit: the lowest index among the records plus 256; none where the table holds no record (R47). -/
def SetTable.lapLimit (t : SetTable) : Option Nat := t.recordIndices.head?.map (· + Config.ringSize)

/-! ### Lookups (R52) -/

/-- The four answers of a lookup. A Pending answer carries the numbers and whether the record is in its slot. -/
inductive Lookup where
  | opened (r : SetRecord)
  | pending (numbers : List Num) (inSlot : Bool)
  | retired (t : Trace)
  | none
  deriving DecidableEq, Repr

/-- The pending-void row of a set index. -/
def State.rowAt (s : State) (i : Nat) : Option PendingRow := s.acct.rows.find? fun r => r.setIndex == some i

/-- The lookup for a set index that is not negative (R52). -/
def State.lookup (s : State) (i : Nat) : Lookup :=
  match s.table.recordAt i with
  | some r => if r.state = .opened then .opened r else .pending r.numbers true
  | none =>
    match s.table.traceAt i with
    | some t => .retired t
    | none =>
      match s.rowAt i with
      | some w => .pending (w.numbers.map (·.1)) false
      | none => .none

/-- The lookup for any index; one below 0 answers None (R52). -/
def State.lookupInt (s : State) : Int → Lookup
  | .ofNat i => s.lookup i
  | .negSucc _ => .none

/-- The numbers held for a set, for the slip tests: from its record or its trace (R95). -/
def Lookup.heldNumbers : Lookup → Option (List Num)
  | .opened r => some r.numbers
  | .pending ns inSlot => if inSlot then some ns else Option.none
  | .retired t => some t.numbers
  | .none => Option.none

/-! ### Updates -/

/-- One slot with the OPEN record tagged i rewritten. -/
def Slot.modifyOpen (i : Nat) (f : SetRecord → SetRecord) : Slot → Slot
  | .record r => if r.index = i ∧ r.state = .opened then .record (f r) else .record r
  | .trace t => .trace t

/-- The OPEN record tagged i rewritten; absorbed where there is none (R52). -/
def SetTable.modifyOpen (t : SetTable) (i : Nat) (f : SetRecord → SetRecord) : SetTable :=
  { t with slots := t.slots.map (Slot.modifyOpen i f) }

/-- A record with an update applied to its status of ply p (R53). -/
def SetRecord.updatePly (r : SetRecord) (p : Ply) (st : PlyStatus) : SetRecord :=
  match r.plies.get p with
  | some old => { r with plies := r.plies.set p (some (old.update st)) }
  | none => r

/-- An update to ply p of set i (R52, R53). -/
def updatePly (p : Ply) (i : Nat) (st : PlyStatus) (s : State) : State :=
  s.mapTable fun t => t.modifyOpen i fun r => r.updatePly p st

/-- The same update for each of several sets. -/
def updatePlies (p : Ply) (is : List Nat) (st : PlyStatus) (s : State) : State :=
  is.foldl (fun s i => updatePly p i st s) s

/-- The sweep of ply p over one slot: an OPEN record with the ply LOADED or PRINTED and not yet married becomes
SKEWED on that ply (R54). -/
def Slot.sweep (p : Ply) : Slot → Slot
  | .record r =>
    if r.state = .opened ∧ r.marriage = .notYet
        ∧ (r.plies.get p = some .loaded ∨ r.plies.get p = some .printed) then
      .record { r with plies := r.plies.set p (some .skewed) }
    else .record r
  | .trace t => .trace t

/-- The sweep for ply p (R54). -/
def sweepPly (p : Ply) (s : State) : State := s.mapTable fun t => { t with slots := t.slots.map (Slot.sweep p) }

/-- An update to the marriage of set i (R55). -/
def updateMarriage (i : Nat) (m : Marriage) (s : State) : State :=
  s.mapTable fun t => t.modifyOpen i fun r => { r with marriage := r.marriage.update m }

/-- An update to the verification of set i (R55). -/
def updateVerification (i : Nat) (v : Verification) (s : State) : State :=
  s.mapTable fun t => t.modifyOpen i fun r => { r with verification := r.verification.update v }

/-- The host cull mark set on set i (R61). -/
def markHostCull (i : Nat) (s : State) : State :=
  s.mapTable fun t => t.modifyOpen i fun r => { r with hostCull := true }

end Sys2Proof.Machine
end

