-- ==== Sys2Proof/Machine/Accounts.lean ====
section
/-! DEFINITION. Number accounting: the void log, the remake register, pending voids and the stream marks
(R57, R58, R113, R129 to R147, R169, R174). -/

namespace Sys2Proof.Machine
open Sys2Proof

/-! ### The void log -/

/-- The log's fill (R132). -/
def State.logFill (s : State) : Nat := s.acct.log.records.length

/-- The log's free space (R132). -/
def State.logFree (s : State) : Nat := Config.logSize - s.logFill

/-- The log has room for k records (R132). -/
def State.logRoom (s : State) (k : Nat) : Bool := decide (k ≤ s.logFree)

/-- Records appended; an append that takes the free space below 128 with the low flag clear sets the flag and raises
LOG_LOW (R132, R134). -/
def appendLog (rs : List VoidRecord) (s : State) : State :=
  let s1 := s.mapAcct fun a => { a with log := { a.log with records := a.log.records ++ rs } }
  if !s.acct.log.low && fillLow s1.logFill then
    raiseReport (logLowReport s1.logFill) (s1.mapAcct fun a => { a with log := { a.log with low := true } })
  else s1

/-- Records appended with the job controller informed of the flag: hold cause LOG is raised (R134). ABORT appends
with `inform` false: its run has stopped (R163; log entry 12). -/
def appendVoids (inform : Bool) (rs : List VoidRecord) (s : State) : State :=
  let s1 := appendLog rs s
  if inform && !s.acct.log.low && s1.acct.log.low then raiseHold .log s1 else s1

/-- VOIDED rises by the count of void records written for issued numbers (R143). -/
def countVoided (k : Nat) (s : State) : State := s.mapCounters fun c => { c with voided := c.voided.raise k }

/-- The void records of numbers with their lanes (R131). -/
def voidRecords (ns : List (Num × Nat)) (cause : VoidCause) (idx : Option Nat) (attempts : Nat) (exhausted : Bool) :
    List VoidRecord :=
  ns.map fun x => ⟨x.1, x.2, cause, idx, attempts, exhausted, none⟩

/-- Numbers voided: one record each, VOIDED raised (R129). -/
def writeVoids (inform : Bool) (rs : List VoidRecord) (s : State) : State :=
  countVoided rs.length (appendVoids inform rs s)

/-- A pending-void row written (R57). -/
def addRow (r : PendingRow) (s : State) : State := s.mapAcct fun a => { a with rows := a.rows ++ [r] }

/-! ### The remake register -/

/-- A new WAITING entry at the tail, with the next entry number (R138, R140). -/
def createEntry (ns : List Num) (cause : VoidCause) (s : State) : State :=
  s.mapAcct fun a =>
    { a with
      register := a.register ++ [⟨a.nextEntry, ns, 0, cause, .waiting, none, none, false⟩]
      nextEntry := a.nextEntry + 1 }

/-- The entry of a number. -/
def State.entryNo (s : State) (k : Nat) : Option RemakeEntry := s.acct.register.find? fun e => e.number == k

/-- The entry of a number removed (R139). -/
def removeEntry (k : Nat) (s : State) : State :=
  s.mapAcct fun a => { a with register := a.register.filter fun e => e.number != k }

/-- An entry rewritten in its place in register order. -/
def replaceEntry (e : RemakeEntry) (s : State) : State :=
  s.mapAcct fun a => { a with register := a.register.map fun x => if x.number = e.number then e else x }

/-- An entry back in WAITING at the tail (R112, R176). -/
def requeueEntry (e : RemakeEntry) (s : State) : State :=
  s.mapAcct fun a =>
    { a with
      register := (a.register.filter fun x => x.number != e.number)
        ++ [{ e with state := .waiting, setIndex := none, pendingCause := none, exhausted := false }] }

/-- The oldest WAITING entry (R139). -/
def State.oldestWaiting (s : State) : Option RemakeEntry := s.acct.register.find? fun e => e.state == .waiting

/-- The void records of an entry (R141). -/
def entryRecords (c : Scheme) (e : RemakeEntry) (cause : VoidCause) (idx : Option Nat) (exhausted : Bool) :
    List VoidRecord :=
  voidRecords (c.withLanes e.numbers) cause idx e.attempts exhausted

/-- An entry voided with a cause, or left VOID_PENDING when the log lacks room (R112, R141). -/
def voidEntry (inform : Bool) (e : RemakeEntry) (cause : VoidCause) (idx : Option Nat) (exhausted : Bool) (s : State) :
    State :=
  if s.logRoom e.numbers.length then
    removeEntry e.number (writeVoids inform (entryRecords s.scheme e cause idx exhausted) s)
  else
    replaceEntry
      { e with state := .voidPending, setIndex := idx, pendingCause := some cause, exhausted := exhausted } s

/-- How many entries stand in a state. -/
def State.entryCount (s : State) (st : EntryState) : Nat := (s.acct.register.filter fun e => e.state == st).length

/-- Pending voids still held: rows plus VOID_PENDING entries (R136). -/
def State.pendingVoids (s : State) : Nat := s.acct.rows.length + s.entryCount .voidPending

/-! ### Flush (R58, R137) -/

/-- One row flushed whole: its records written, VOIDED raised, the row removed, a CULLED trace kept in place of its
VOID_PENDING record (R58). -/
def flushRow (r : PendingRow) (s : State) : State :=
  let s1 := writeVoids true (voidRecords r.numbers r.cause r.setIndex r.attempts r.exhausted) s
  let s2 := s1.mapAcct fun a => { a with rows := a.rows.erase r }
  let s3 :=
    match r.setIndex with
    | none => s2
    | some i =>
      match s2.table.recordAt i with
      | none => s2
      | some x =>
        if x.state = .voidPending then s2.mapTable fun t => t.putTrace ⟨i, .culled, x.numbers, none⟩ else s2
  endWrite s3

/-- Rows flushed in turn until one does not fit; true when none is left (R58). -/
def flushRows : List PendingRow → State → State × Bool
  | [], s => (s, true)
  | r :: rs, s => if s.logRoom r.numbers.length then flushRows rs (flushRow r s) else (s, false)

/-- VOID_PENDING entries flushed in turn until one does not fit (R137, R141). -/
def flushEntries : List RemakeEntry → State → State
  | [], s => s
  | e :: es, s =>
    if s.logRoom e.numbers.length then
      flushEntries es
        (endWrite (voidEntry true e (e.pendingCause.getD .aborted) e.setIndex e.exhausted s))
    else s

/-- A row inserted by increasing set index. -/
def insertRow (r : PendingRow) : List PendingRow → List PendingRow
  | [] => [r]
  | x :: xs => if r.setIndex.getD 0 ≤ x.setIndex.getD 0 then r :: x :: xs else x :: insertRow r xs

/-- Rows in flush order: those with a set index in increasing index order, then the others as written (R137). -/
def flushOrder (rs : List PendingRow) : List PendingRow :=
  (rs.filter fun r => r.setIndex.isSome).foldr insertRow [] ++ rs.filter fun r => r.setIndex.isNone

/-- The flush after a LOG_FREE (R137). -/
def flush (s : State) : State :=
  match flushRows (flushOrder s.acct.rows) s with
  | (s1, true) => flushEntries (s1.acct.register.filter fun e => e.state == .voidPending) s1
  | (s1, false) => s1

/-! ### Stream marks -/

/-- The retired mark moved on past a jump range that begins where it rests (R169). -/
def passJumps (c : Scheme) : Nat → Mark → List JumpRange → Mark × List JumpRange
  | 0, m, js => (m, js)
  | _ + 1, .atEnd, js => (.atEnd, js)
  | n + 1, .item x, js =>
    match js.find? fun r => r.first.same x with
    | none => (.item x, js)
    | some r => passJumps c n (c.markAfter r.last) (js.erase r)

/-- The jump list settled against the one stream's retired mark (R169). -/
def Header.settleJumps (c : Scheme) (h : Header) : Header :=
  match h.marks with
  | [] => h
  | m :: ms =>
    { h with
      marks := { m with retired := (passJumps c h.jumpList.length m.retired h.jumpList).1 } :: ms
      jumpList := (passJumps c h.jumpList.length m.retired h.jumpList).2 }

/-- The retired mark of each stream set after the last number on that stream (R113). -/
def moveMarks (c : Scheme) : List StreamMarks → List Num → List StreamMarks
  | m :: ms, n :: ns => { m with retired := c.markAfter n } :: moveMarks c ms ns
  | ms, [] => ms
  | [], _ :: _ => []

/-- The retired marks move past a regular set's numbers, and past a jump range that begins there (R113, R169). -/
def moveRetired (ns : List Num) (s : State) : State :=
  s.mapHeader fun h =>
    Header.settleJumps s.scheme { h with marks := moveMarks s.scheme h.marks (s.scheme.lastPerStream ns) }

/-- The retired mark of each stream set equal to its allocation mark, the jump list emptied (R145, R169). -/
def settleMarks (s : State) : State :=
  s.mapHeader fun h => { h with marks := h.marks.map fun m => { m with retired := m.alloc }, jumpList := [] }

/-! ### Numbers in doubt (R174) -/

/-- An item lies in a range of the jump list. -/
def JumpRange.contains (c : Scheme) (r : JumpRange) (n : Num) : Bool :=
  match c.dir with
  | .ascending => decide (c.posOf r.first ≤ c.posOf n) && decide (c.posOf n ≤ c.posOf r.last)
  | .descending => decide (c.posOf r.last ≤ c.posOf n) && decide (c.posOf n ≤ c.posOf r.first)

/-- The walk from a mark towards the allocation mark: issued items, passing over excluded items and jump ranges; a
range is passed in one step. The first argument bounds the walk (R174). -/
def doubtWalk (c : Scheme) (js : List JumpRange) (stop : Mark) : Nat → Mark → List Num
  | 0, _ => []
  | _ + 1, .atEnd => []
  | n + 1, .item x =>
    if (match stop with | .item y => x.same y | .atEnd => false) then []
    else
      match js.find? fun r => r.contains c x with
      | some r => doubtWalk c js stop n (c.markAfter r.last)
      | none =>
        if c.excluded x.serial then doubtWalk c js stop n (c.markAfter x)
        else { x with check := c.checkOf x.serial } :: doubtWalk c js stop n (c.markAfter x)

/-- A bound on the items from a mark to the allocation mark: their distance (R25) plus one. -/
def doubtBound (c : Scheme) (m : StreamMarks) : Nat :=
  match m.retired, m.alloc with
  | .item x, .item y => c.distance (c.posOf x) (c.posOf y) + 1
  | .item x, .atEnd =>
    (match c.dir with
      | .ascending => (c.lastPos - c.posOf x) / c.stepK
      | .descending => c.posOf x / c.stepK) + 2
  | .atEnd, _ => 0

/-- The in-doubt numbers of one stream (R174). -/
def doubtNumbers (c : Scheme) (js : List JumpRange) (m : StreamMarks) : List Num :=
  doubtWalk c js m.alloc (doubtBound c m) m.retired

/-- A list cut into groups of k; the first argument bounds the number of groups. -/
def groupsOf (k : Nat) : Nat → List Num → List (List Num)
  | 0, _ => []
  | _ + 1, [] => []
  | f + 1, n :: ns => (n :: ns).take (max k 1) :: groupsOf k f ((n :: ns).drop (max k 1))

/-- The k-th numbers of every stream together, for each k; the first argument bounds k. -/
def acrossStreams : Nat → List (List Num) → List (List Num)
  | 0, _ => []
  | f + 1, ls =>
    if ls.any (fun l => !l.isEmpty) then ls.filterMap List.head? :: acrossStreams f (ls.map List.tail) else []

/-- The in-doubt sets, in stream order (R174). -/
def State.doubtSets (s : State) : List (List Num) :=
  let perStream := s.acct.header.marks.map (doubtNumbers s.scheme s.acct.header.jumpList)
  if s.scheme.mode = .split then acrossStreams (perStream.map List.length).sum perStream
  else groupsOf s.scheme.numbersPerSet perStream.flatten.length perStream.flatten

/-- An in-doubt set voided with cause POWER_LOSS, or held on a row without a set index if the log lacks room; the
retired mark moves past its numbers in the same write (R141, R175). -/
def voidDoubtSet (inform : Bool) (ns : List Num) (s : State) : State :=
  let s1 :=
    if s.logRoom ns.length then
      writeVoids inform (voidRecords (s.scheme.withDoubtLanes ns) .powerLoss none 0 false) s
    else addRow ⟨none, s.scheme.withDoubtLanes ns, .powerLoss, 0, false⟩ s
  endWrite (moveRetired ns s1)

end Sys2Proof.Machine
end

