-- ==== Sys2Proof/Machine/Bundle.lean ====
section
/-! DEFINITION. The bundle builder, the completion check and SUSPECT (R117 to R125, R161). -/

namespace Sys2Proof.Machine
open Sys2Proof

/-- A bundle just opened (R117). -/
def OpenBundle.fresh (number lanes : Nat) : OpenBundle :=
  ⟨number, 0, List.replicate lanes none, List.replicate lanes none, [], false, false, none⟩

/-- The last regular number of each lane after a delivered regular set (R118). -/
def newLasts (c : Scheme) (ns : List Num) (old : List (Option Num)) : List (Option Num) :=
  (old.zip (List.range old.length)).map fun x => ((c.laneNumber ns (x.2 + 1)).map some).getD x.1

/-- The first regular number of each lane after a delivered regular set (R118). -/
def newFirsts (c : Scheme) (ns : List Num) (old : List (Option Num)) : List (Option Num) :=
  (old.zip (List.range old.length)).map fun x =>
    match x.1 with
    | some n => some n
    | none => c.laneNumber ns (x.2 + 1)

/-- A delivered set added to the bundle: a regular set moves the lanes' first and last numbers; past the size with
a close pending the bundle is oversize (R118). -/
def OpenBundle.addSet (c : Scheme) (size : Nat) (kind : SetKind) (ns : List Num) (b : OpenBundle) : OpenBundle :=
  { b with
    sets := b.sets + 1
    firsts := if kind = .regular then newFirsts c ns b.firsts else b.firsts
    lasts := if kind = .regular then newLasts c ns b.lasts else b.lasts
    oversize := b.oversize || (b.closePending.isSome && decide (size < b.sets + 1)) }

/-- An exception appended, or the incomplete flag set when the list is full (R119). -/
def OpenBundle.addException (e : BundleException) (b : OpenBundle) : OpenBundle :=
  if b.exceptions.length < Config.exceptionLimit then { b with exceptions := b.exceptions ++ [e] }
  else { b with incomplete := true }

/-- The open bundle rewritten, if there is one. -/
def mapBundle (f : OpenBundle → OpenBundle) (s : State) : State :=
  s.mapAcct fun a => { a with bundle := a.bundle.map f }

/-- The manifest queue is full (R125). -/
def State.manifestsFull (s : State) : Bool := decide (Config.manifestSize ≤ s.acct.manifests.length)

/-- The manifest of a bundle (R121, R125). -/
def manifestOf (jobId : Nat) (b : OpenBundle) (r : CloseReason) : Manifest :=
  ⟨jobId, b.number, r, b.sets, b.firsts, b.lasts, b.exceptions, b.oversize, b.incomplete⟩

/-- The jog one-shot started for a full width (R124). -/
def startJog (s : State) : State := s.mapGate fun g => { g with jog := some s.policy.jogWidth }

/-- A close completes: the manifest joins the queue, the jog starts, the next bundle opens for SIZE and EXCEPTIONS,
and a BUNDLE report is raised (R121). -/
def completeClose (b : OpenBundle) (r : CloseReason) (s : State) : State :=
  raiseReport (bundleReport b r)
    (startJog
      (s.mapAcct fun a =>
        { a with
          manifests := a.manifests ++ [manifestOf a.header.jobId b r]
          bundle :=
            match r with
            | .size => some (OpenBundle.fresh (b.number + 1) s.scheme.lanes)
            | .exceptions => some (OpenBundle.fresh (b.number + 1) s.scheme.lanes)
            | .final => none
            | .aborted => none }))

/-- A close that is reached: it completes at once if the manifest queue has room, otherwise it becomes pending
(R121, R122). -/
def reachClose (b : OpenBundle) (r : CloseReason) (s : State) : State :=
  if s.manifestsFull then s.mapAcct fun a => { a with bundle := some { b with closePending := some r } }
  else completeClose b r s

/-- FINAL and ABORTED closes, as asked for; a close already pending takes the new reason (R123). -/
def askClose (r : CloseReason) (s : State) : State :=
  match s.acct.bundle with
  | none => s
  | some b => reachClose b r s

/-- After a retirement has changed the open bundle: a pending SIZE or EXCEPTIONS close completes if there is room;
otherwise the close that is reached, SIZE before EXCEPTIONS, is made (R121, R122). -/
def closeAtRetirement (delivered appended : Bool) (s : State) : State :=
  match s.acct.bundle with
  | none => s
  | some b =>
    match b.closePending with
    | some .size => if s.manifestsFull then s else completeClose b .size s
    | some .exceptions => if s.manifestsFull then s else completeClose b .exceptions s
    | some .final => s
    | some .aborted => s
    | none =>
      if delivered && b.sets == s.policy.bundleSize then reachClose b .size s
      else if appended && b.exceptions.length == Config.exceptionLimit then reachClose b .exceptions s
      else s

/-- The job controller is told that the manifest queue became full: hold cause MANIFEST is raised, in a write of its
own (R113 step 4, R125, R157). -/
def reportFull (wasFull : Bool) (s : State) : State :=
  if !wasFull && s.manifestsFull then endWrite (raiseHold .manifest s) else s

/-- Entry to COMPLETE (R161). -/
def enterComplete (s : State) : State := changeJob .complete (stopRun s)

/-- The completion check of R161: in DRAINING, with no record, no row and no register entry, the job asks for the
FINAL close and enters COMPLETE in the write that completes it. -/
def completionCheck (s : State) : State :=
  if s.jobState = .draining ∧ s.table.records = [] ∧ s.acct.rows = [] ∧ s.acct.register = [] then
    match s.acct.bundle with
    | none => endWrite (enterComplete s)
    | some b =>
      if b.closePending = some .final then s
      else if s.manifestsFull then endWrite (reachClose b .final s)
      else endWrite (enterComplete (reachClose b .final s))
  else s

/-- A SUSPECT taken by the gate unit (R120): the report, the counter, and the exception if the bundle is still open;
the exception that fills the list closes the bundle (R121). -/
def takeSuspect (index : Nat) (ns : List Num) (bundle : Nat) (late : Bool) (s : State) : State :=
  let s1 := raiseReport (suspectReport index ns bundle late) s
  let s2 := s1.mapCounters fun c => { c with suspect := c.suspect.raise ns.length }
  match s2.acct.bundle with
  | none => endWrite s2
  | some b =>
    if b.number = bundle then
      let b' := b.addException ⟨.suspect, index, ns, .delivered⟩
      let s3 := s2.mapAcct fun a => { a with bundle := some b' }
      if b'.exceptions.length = Config.exceptionLimit ∧ b.exceptions.length < Config.exceptionLimit
          ∧ b'.closePending = none then
        reportFull s3.manifestsFull (endWrite (reachClose b' .exceptions s3))
      else endWrite s3
    else endWrite s2

end Sys2Proof.Machine
end

