-- ==== Sys2Proof/Machine/Stations.lean ====
section
/-! DEFINITION. The station tracker: cues, delays, set indices, the skew check and realignment (R1 to R11). -/

namespace Sys2Proof.Machine
open Sys2Proof

/-- A station is in the job: the job is RUNNING, HOLD or DRAINING and, for a head station, its ply is engaged and
its channel fitted (R1). -/
def State.inJob (s : State) : StationId → Bool
  | .head p => s.jobState.inRun && s.engaged p && (s.heads.get p).state != .unfitted
  | .marriage => s.jobState.inRun
  | .reader => s.jobState.inRun
  | .gate => s.jobState.inRun

/-- The index a count gives at a station (R4). -/
def Station.indexAt (x : Station) (count : Int) : Int := count - 1 - (x.delay.getD 0 : Nat)

/-- The count stands at its top value, where a cue leaves it (R2). -/
def Station.held (x : Station) : Bool := decide (Config.countTop ≤ x.count)

/-- The station after a counted cue (R2). -/
def Station.counted (x : Station) : Station := if x.held then x else { x with count := x.count + 1 }

/-- The set index of the cue the station takes now: from the new count (R4), or −1, a lead-in index, where the count
is held (R2). -/
def Station.cueIndex (x : Station) : Int := if x.held then -1 else x.indexAt (x.count + 1 : Nat)

/-- The index of the station's next cue: the count as it stands less the delay (R10). -/
def Station.nextIndex (x : Station) : Int := (x.count : Int) - (x.delay.getD 0 : Nat)

/-- A cue counted at a station (R2). -/
def countCue (i : StationId) (s : State) : State := s.mapTracker fun t => t.set i (t.get i).counted

/-- The station with the marriage count, its flag clear, ALIGNED (R10). -/
def Station.realigned (x : Station) (nM : Nat) : Station := { x with count := nM, prevSkew := false, state := .aligned }

/-- Realignment of a station (R10). -/
def realign (i : StationId) (s : State) : State :=
  s.mapTracker fun t => t.set i ((t.get i).realigned t.marriage.count)

/-! ### Delays and START (R3, R11) -/

/-- D_max, the largest path length over the engaged plies (R3). -/
def Geometry.dMax (g : Geometry) : Nat :=
  (Ply.all.map fun p => if g.engaged.get p then g.dist.get p else 0).foldl max 0

/-- A head station after START (R3, R6, R11). -/
def Geometry.headStation (g : Geometry) (p : Ply) : Station :=
  if g.engaged.get p then ⟨.aligned, false, 0, some (g.dMax - g.dist.get p)⟩ else ⟨.inactive, false, 0, none⟩

/-- The tracker after START (R3, R6, R11). -/
def Tracker.started (g : Geometry) : Tracker where
  heads := PerPly.ofFn g.headStation
  marriage := ⟨.aligned, false, 0, some g.dMax⟩
  reader := ⟨.aligned, false, 0, some (g.dMax + g.readerV)⟩
  gate := ⟨.aligned, false, 0, some (g.dMax + g.gateG)⟩

/-! ### The skew check (R7) -/

/-- The skew of a station against the marriage count. -/
def Station.skew (x : Station) (nM : Nat) : Int := (x.count : Int) - nM

/-- The station becomes SKEWED at a marriage cue (R7). -/
def Station.goesSkewed (x : Station) (nM : Nat) : Bool :=
  x.state == .aligned && (decide (2 ≤ (x.skew nM).natAbs) || (decide (x.skew nM ≠ 0) && x.prevSkew))

/-- The station after the check: an ALIGNED one has its state and its previous-skew flag set (R7). -/
def Station.checked (x : Station) (nM : Nat) : Station :=
  if x.state = .aligned then
    { x with state := if x.goesSkewed nM then .skewed else .aligned, prevSkew := decide (x.skew nM ≠ 0) }
  else x

/-- The tracker after the check of every station but M (R7). -/
def Tracker.checked (t : Tracker) : Tracker where
  heads := PerPly.ofFn fun p => (t.heads.get p).checked t.marriage.count
  marriage := t.marriage
  reader := t.reader.checked t.marriage.count
  gate := t.gate.checked t.marriage.count

/-- The head plies whose stations become SKEWED at this check, in increasing number. -/
def Tracker.skewingHeads (t : Tracker) : List Ply :=
  Ply.all.filter fun p => (t.heads.get p).goesSkewed t.marriage.count

end Sys2Proof.Machine
end

