-- ==== Sys2Proof/Machine/Heads.lean ====
section
/-! DEFINITION. Allocation at head cues (R45 to R51, R160) and the numbering head channels (R65 to R85). -/

namespace Sys2Proof.Machine
open Sys2Proof

/-! ### Allocation -/

/-- A record as allocation makes it (Table 30). -/
def State.newRecord (s : State) (i : Nat) (kind : SetKind) (ns : List Num) (entry : Option Nat) (attempt : Nat) :
    SetRecord where
  index := i
  kind := kind
  numbers := ns
  entry := entry
  attempt := attempt
  plies := PerPly.ofFn fun p => if s.engaged p then some .waiting else none
  marriage := .notYet
  verification := if s.policy.verify then .notYet else .off
  hostCull := false
  state := .opened
  pendingCause := none

/-- The frontier raised to f; it never falls during a run (R45). -/
def raiseFrontier (f : Nat) (s : State) : State := s.mapTable fun t => { t with frontier := max t.frontier f }

/-- A remake allocation of entry e for index i: the entry IN_FLIGHT, SETS_REMAKE raised, one write (R49). -/
def allocateRemake (e : RemakeEntry) (i : Nat) (s : State) : State × Option SetRecord :=
  let r := s.newRecord i .remake e.numbers (some e.number) (e.attempts + 1)
  let s1 := replaceEntry { e with state := .inFlight, setIndex := some i } s
  let s2 := s1.mapCounters fun c => { c with setsRemake := c.setsRemake.raise 1 }
  (endWrite (s2.mapTable fun t => t.putRecord r), some r)

/-- The refusal of a regular allocation: HOLD with cause EXHAUSTED and stop cause EXHAUSTED, in one write (R34, R50). -/
def refuseExhausted (s : State) : State := endWrite (latch .exhausted (raiseHold .exhausted s))

/-- The counters a kept regular allocation raises (R33). -/
def Counters.issue (c : Counters) (numbers excluded : Nat) : Counters :=
  { c with
    issued := c.issued.raise numbers
    excluded := c.excluded.raise excluded
    setsRegular := c.setsRegular.raise 1 }

/-- The allocation marks replaced by what the issues left (R33). -/
def Header.setAlloc (h : Header) (ms : List Mark) : Header :=
  { h with marks := (h.marks.zip ms).map fun x => { x.1 with alloc := x.2 } }

/-- Entry to DRAINING in the same write, when the remaining quantity has come to 0 (R160). -/
def drainIfDone (s : State) : State :=
  if s.jobState = .running ∧ s.remaining = 0 then changeJob .draining s else s

/-- A kept regular allocation, followed by the completion check that entry to DRAINING asks for (R50, R160, R161). -/
def keepRegular (i : Nat) (ns : List Num) (excluded : Nat) (ms : List Mark) (s : State) : State × Option SetRecord :=
  let r := s.newRecord i .regular ns none 0
  let s1 := (s.mapCounters fun c => c.issue ns.length excluded).mapHeader fun h => h.setAlloc ms
  let s2 := endWrite (drainIfDone (s1.mapTable fun t => t.putRecord r))
  (if s2.jobState = .draining then completionCheck s2 else s2, some r)

/-- A regular allocation for index i (R33, R34, R50). -/
def allocateRegular (i : Nat) (s : State) : State × Option SetRecord :=
  match s.scheme.issueSet (s.acct.header.marks.map StreamMarks.alloc) with
  | none => (refuseExhausted s, none)
  | some (ns, excluded, ms) => keepRegular i ns excluded ms s

/-- Allocation of index i where the ring has room: remake, regular or run-out blank; the frontier becomes i + 1
(R48). -/
def allocateAt (i : Nat) (s : State) : State × Option SetRecord :=
  let s1 := raiseFrontier (i + 1) s
  match s.jobState with
  | .running =>
    match s.oldestWaiting with
    | some e => allocateRemake e i s1
    | none => if 0 < s.remaining then allocateRegular i s1 else (s1, none)
  | .draining =>
    match s.oldestWaiting with
    | some e => allocateRemake e i s1
    | none => (s1, none)
  | .idle => (s1, none)
  | .loaded => (s1, none)
  | .hold => (s1, none)
  | .complete => (s1, none)
  | .aborted => (s1, none)
  | .recovery => (s1, none)
  | .resumable => (s1, none)

/-- Allocation of an index at or beyond the frontier under the lap limit (R47). -/
def allocate (i : Nat) (s : State) : State × Option SetRecord :=
  match s.table.lapLimit with
  | none => allocateAt i s
  | some c => if i < c then allocateAt i s else (raiseFrontier c s, none)

/-- The table's answer to a head cue at station p: the record to use, or blank (R46). -/
def tableCue (p : Ply) (i : Int) (s : State) : State × Option SetRecord :=
  match i with
  | .negSucc _ => (s, none)
  | .ofNat n =>
    match s.table.openAt n with
    | some r => (s, some r)
    | none =>
      if n < s.table.frontier then (s, none)
      else if (s.tracker.heads.get p).state = .aligned then allocate n s
      else (s, none)

/-! ### Faults of a channel -/

/-- Entry to FAULTED from LEAD_IN or NUMBERING: the cause is recorded and, for every cause but SKEW, HEAD_FAULT(p)
is latched. In any other state the event leaves state and cause (R67). -/
def enterFault (p : Ply) (c : FaultCause) (s : State) : State :=
  let s1 := s.mapHead p fun ch => { ch with state := .faulted, cause := some c }
  match (s.heads.get p).state with
  | .leadIn => if c = .skew then s1 else latch (.headFault p) s1
  | .numbering => if c = .skew then s1 else latch (.headFault p) s1
  | .unfitted => s
  | .disengaged => s
  | .idle => s
  | .faulted => s

/-- Every outstanding load removed, its set receiving the update FAULTED (R67, R78, R82). -/
def dropLoads (p : Ply) (s : State) : State :=
  updatePlies p ((s.heads.get p).queue.map Load.index) .faulted (s.mapHead p fun ch => { ch with queue := [] })

/-- A protocol error taken in LEAD_IN or NUMBERING (R67). -/
def protocolError (p : Ply) (s : State) : State := dropLoads p (enterFault p .protocol s)

/-! ### Loads -/

/-- The tag of the next load: the counter's value, or the next one in cyclic order that no outstanding load holds
(R69). -/
def freeTag (counter : Nat) (queue : List Load) : Nat :=
  ((List.range 4).map fun k => (counter + k) % 4).find? (fun t => !queue.any fun l => l.tag == t) |>.getD (counter % 4)

/-- The LOAD frame for a record on ply p (R69, R198). -/
def State.loadFrame (s : State) (p : Ply) (tag : Nat) (r : SetRecord) : PortFrame :=
  ⟨0x41#8, loadPayload tag (laneStrings s.scheme (s.acct.job.formats.get p) r.numbers)⟩

/-- A LOAD sent for a record: the frame joins the head link, the load the queue at age 0, the set is LOADED (R69). -/
def sendLoad (p : Ply) (r : SetRecord) (s : State) : State :=
  let tag := freeTag (s.heads.get p).tagCounter (s.heads.get p).queue
  let s1 := { s with headTx := s.headTx.set p (s.headTx.get p ++ [s.loadFrame p tag r]) }
  let s2 := s1.mapHead p fun ch =>
    { ch with queue := ch.queue ++ [⟨tag, r.index, 0⟩], tagCounter := (tag + 1) % 4 }
  updatePly p r.index .loaded s2

/-- The timeout step: each load whose age has reached T is removed and its set receives LATE; in NUMBERING the
channel enters FAULTED with cause TIMEOUT, in FAULTED it stays as it is (R73, R75). -/
def timeoutStep (p : Ply) (s : State) : State :=
  let limit := s.acct.job.geometry.timeoutT
  let late := (s.heads.get p).queue.filter fun l => decide (limit ≤ l.age)
  let s1 := s.mapHead p fun ch => { ch with queue := ch.queue.filter fun l => decide (l.age < limit) }
  if late = [] then s else enterFault p .timeout (updatePlies p (late.map Load.index) .late s1)

/-- The age of every outstanding load raised by 1 (R73). -/
def ageLoads (p : Ply) (s : State) : State :=
  s.mapHead p fun ch => { ch with queue := ch.queue.map fun l => { l with age := l.age + 1 } }

/-- The splice after-count at a cue: the cue's record is SPLICED and the count falls by 1 (R80). -/
def spliceAfter (p : Ply) (r : Option SetRecord) (s : State) : State :=
  if (s.heads.get p).afterCount = 0 then s
  else
    let s1 := match r with
      | some x => updatePly p x.index .spliced s
      | none => s
    s1.mapHead p fun ch => { ch with afterCount := ch.afterCount - 1 }

/-! ### The channel at its cue -/

/-- The cue's set in NUMBERING: blank, load or overrun (R74). -/
def numberSet (p : Ply) (r : Option SetRecord) (s : State) : State :=
  match r with
  | none => s
  | some x =>
    if (s.heads.get p).queue.length < Config.headQueueSize then sendLoad p x s
    else updatePly p x.index .skipped s

/-- The cue's set in FAULTED (R75). -/
def faultSet (p : Ply) (r : Option SetRecord) (s : State) : State :=
  match r with
  | none => s
  | some x => updatePly p x.index .faulted s

/-- A cue in NUMBERING or FAULTED: ageing, timeout, the after-count, then the cue's set by the state the channel is
in by then (R73 to R75). -/
def loadingCue (p : Ply) (r : Option SetRecord) (s : State) : State :=
  let s1 := spliceAfter p r (timeoutStep p (ageLoads p s))
  if (s1.heads.get p).state = .faulted then faultSet p r s1 else numberSet p r s1

/-- The cue at head channel p, with the table's answer (R72 to R75). -/
def channelCue (p : Ply) (i : Int) (r : Option SetRecord) (s : State) : State :=
  match (s.heads.get p).state with
  | .leadIn =>
    if i < 0 then spliceAfter p r s
    else loadingCue p r (s.mapHead p fun ch => { ch with state := .numbering })
  | .numbering => loadingCue p r s
  | .faulted => loadingCue p r s
  | .unfitted => s
  | .disengaged => s
  | .idle => s

/-- A cue at head station p: the count, the table, then the channel (R1 to R5, R46). -/
def headCue (p : Ply) (s : State) : State :=
  if s.inJob (.head p) then
    let i := (s.tracker.heads.get p).cueIndex
    let x := tableCue p i (countCue (.head p) s)
    channelCue p i x.2 x.1
  else s

/-! ### Messages of the head -/

/-- A well-formed DONE (R76, R77). -/
def takeDone (p : Ply) (tag : Nat) (misfire : Bool) (s : State) : State :=
  match (s.heads.get p).queue.find? fun l => l.tag == tag with
  | some l =>
    if (s.heads.get p).state.runs then
      updatePly p l.index (if misfire then .misfire else .printed)
        (s.mapHead p fun ch => { ch with queue := ch.queue.filter fun x => x.tag != tag })
    else s
  | none =>
    match (s.heads.get p).state with
    | .leadIn => protocolError p s
    | .numbering => protocolError p s
    | .faulted => s
    | .idle => s
    | .disengaged => s
    | .unfitted => s

/-- A well-formed HEADFAULT (R78). -/
def takeHeadFault (p : Ply) (code : Nat) (s : State) : State :=
  if (s.heads.get p).state.runs then
    dropLoads p (latch (.headFault p) ((enterFault p .head s).mapHead p fun ch => { ch with code := code }))
  else s

/-- A malformed message (R68). -/
def takeHeadMalformed (p : Ply) (s : State) : State :=
  match (s.heads.get p).state with
  | .leadIn => protocolError p s
  | .numbering => protocolError p s
  | .faulted => s
  | .idle => s
  | .disengaged => s
  | .unfitted => s

/-- A good frame of head link p, read and taken; an UNFITTED channel discards it (R68). -/
def headMessage (p : Ply) (kind : Byte) (pl : List Byte) (s : State) : State :=
  if (s.heads.get p).state = .unfitted then s
  else
    match HeadMessage.ofFrame kind pl with
    | some (.done tag misfire) => takeDone p tag misfire s
    | some (.headfault code) => takeHeadFault p code s
    | none => takeHeadMalformed p s

/-! ### Splice, skew, resume, START -/

/-- The set indices of a backward window: those from h − b to h that are 0 or above, in increasing order (R79). -/
def windowIndices (h : Int) (b : Nat) : List Nat :=
  (List.range (b + 1)).filterMap fun (k : Nat) => if 0 ≤ h - b + k then some (h - b + k).toNat else none

/-- One set of a backward splice window (R79). -/
def spliceSet (p : Ply) (i : Nat) (s : State) : State :=
  match s.lookup i with
  | .opened _ => updatePly p i .spliced s
  | .retired t =>
    match t.disposition with
    | .delivered => takeSuspect i t.numbers (t.bundle.getD 0) false s
    | .culled => s
  | .pending _ _ => s
  | .none => s

/-- SPLp becomes active: a splice window on a running channel (R79, R80). -/
def openSplice (p : Ply) (s : State) : State :=
  if (s.heads.get p).state.runs then
    let x := s.tracker.heads.get p
    let s1 := (windowIndices (x.indexAt x.count) s.acct.job.geometry.beforeB).foldl (fun s i => spliceSet p i s) s
    s1.mapHead p fun ch => { ch with afterCount := max ch.afterCount s.acct.job.geometry.afterA }
  else s

/-- Head station p has become SKEWED: the channel and the sweep (R54, R81). -/
def skewHead (p : Ply) (s : State) : State := sweepPly p (enterFault p .skew s)

/-- An accepted HEAD_RESUME (R82). -/
def resumeHead (p : Ply) (s : State) : State :=
  let s1 := realign (.head p) (dropLoads p s)
  let st := if 0 ≤ (s1.tracker.heads.get p).nextIndex then ChannelState.numbering else .leadIn
  unlatch (.skew p) (unlatch (.headFault p)
    (s1.mapHead p fun ch => { ch with state := st, cause := none, code := 0 }))

/-- A channel at START (R71). -/
def Channel.started (c : Channel) (engaged : Bool) (delay : Nat) : Channel :=
  if c.state = .unfitted then c
  else if engaged then Channel.cleared (if delay = 0 then .numbering else .leadIn)
  else Channel.cleared .disengaged

end Sys2Proof.Machine
end

