-- ==== Sys2Proof/Machine/Marriage.lean ====
section
/-! DEFINITION. The marriage cue: the skew check, its handoffs and the marriage mark (R7, R8, R81, R86, R87, R101,
R115). -/

namespace Sys2Proof.Machine
open Sys2Proof

/-- Station V has become SKEWED (R101). -/
def skewReader (s : State) : State :=
  match s.reader.state with
  | .reading => s.mapReader fun r => { r with state := .skewed, queue := [] }
  | .idle => s
  | .lagging => s
  | .faulted => s
  | .skewed => s

/-- Station G has become SKEWED: DIVERT is asserted at once (R115). -/
def skewGate (s : State) : State := s.mapGate fun g => { g with divert := true }

/-- The check of R7 over all stations, and the latch and handoff of R8 for each station that becomes SKEWED. -/
def skewCheck (s : State) : State :=
  let t := s.tracker
  let s1 := s.mapTracker Tracker.checked
  let s2 := t.skewingHeads.foldl (fun s p => skewHead p (latch (.skew p) s)) s1
  let s3 := if t.reader.goesSkewed t.marriage.count then skewReader (latch .readerSkew s2) else s2
  if t.gate.goesSkewed t.marriage.count then skewGate (latch .gateSkew s3) else s3

/-- The marriage mark of a cue (R86). -/
def markMarriage (i : Int) (headSkew : Bool) (s : State) : State :=
  match i with
  | .negSucc _ => s
  | .ofNat n => updateMarriage n (if headSkew then .skewed else .married) s

/-- A cue at the marriage station (R4, R86). -/
def marriageCue (s : State) : State :=
  if s.inJob .marriage then
    let s1 := countCue .marriage s
    markMarriage s.tracker.marriage.cueIndex (!s1.tracker.skewingHeads.isEmpty) (skewCheck s1)
  else s

end Sys2Proof.Machine
end

