-- ==== Sys2Proof/Machine/Verify.lean ====
section
/-! DEFINITION. The verification unit: the pending queue, results, suspension, late results (R88 to R104). -/

namespace Sys2Proof.Machine
open Sys2Proof

/-- The reader suspended as LAGGING or FAULTED: the queue emptied, READER_FAULT latched (R92). -/
def suspendReader (st : ReaderState) (s : State) : State :=
  latch .readerFault (s.mapReader fun r => { r with state := st, queue := [] })

/-- The pending entry for an index, by the table's answer (R91). -/
def entryFor (i : Int) (a : Lookup) : ReaderEntry :=
  match a with
  | .none => ⟨i, .blank, none⟩
  | .opened _ => ⟨i, .set, none⟩
  | .retired t => ⟨i, .set, some ⟨t.disposition, t.numbers, t.bundle⟩⟩
  | .pending ns _ => ⟨i, .set, some ⟨.culled, ns, none⟩⟩

/-- A reader cue at the verification unit; `held` tells that station V's count is held (R91). -/
def readerUnitCue (i : Int) (held : Bool) (s : State) : State :=
  match s.reader.state with
  | .reading =>
    if held || decide (Config.readerQueueSize ≤ s.reader.queue.length) then suspendReader .lagging s
    else s.mapReader fun r => { r with queue := r.queue ++ [entryFor i (s.lookupInt i)] }
  | .idle => s
  | .lagging => s
  | .faulted => s
  | .skewed => s

/-- A cue at station V (R4, R91). -/
def readerCue (s : State) : State :=
  if s.inJob .reader then
    readerUnitCue s.tracker.reader.cueIndex s.tracker.reader.held (countCue .reader s)
  else s

/-! ### Comparing (R94 to R96) -/

/-- Where two strings first differ, positions counted from `pos`; none if they are the same (R94). -/
def firstDifference (pos : Nat) : List Byte → List Byte → Option Nat
  | [], [] => none
  | [], _ :: _ => some pos
  | _ :: _, [] => some pos
  | a :: as, b :: bs => if a = b then firstDifference (pos + 1) as bs else some pos

/-- Ply 1's string on a lane for a set's numbers, by ply 1's format (R94). No rule forbids verification in a job that
does not engage ply 1, and R38 and R41 give only engaged plies a string: the model composes ply 1's string from its
held format all the same (DESIGN CHOICE, log entry 5). -/
def State.plyOneString (s : State) (ns : List Num) (lane : Nat) : List Byte :=
  laneString s.scheme (s.acct.job.formats.get .ply1) ns lane

/-- The read string is ply 1's string of the set of an index whose numbers are held (R95). -/
def State.readsNeighbour (s : State) (i : Int) (lane : Nat) (read : List Byte) : Bool :=
  match (s.lookupInt i).heldNumbers with
  | some ns => read == s.plyOneString ns lane
  | none => false

/-- The class of a mismatch on a lane of set i (R95). -/
def State.slipClass (s : State) (i : Int) (lane : Nat) (read : List Byte) : SlipClass :=
  if s.readsNeighbour (i - 1) lane read then .slipBehind
  else if s.readsNeighbour (i + 1) lane read then .slipAhead
  else .digits

/-- The outcome of one lane (R94, R95). -/
def State.laneOutcome (s : State) (i : Int) (ns : List Num) (lane : Nat) (e : LaneEntry) : Verification :=
  match e with
  | none => .noread
  | some read =>
    match firstDifference 1 read (s.plyOneString ns lane) with
    | none => .matched
    | some pos => .mismatch lane pos (s.slipClass i lane read)

/-- The worse of two outcomes of lanes, the earlier one where both mismatch (R96). -/
def worse (a b : Verification) : Verification :=
  match a, b with
  | .mismatch l p c, _ => .mismatch l p c
  | _, .mismatch l p c => .mismatch l p c
  | .noread, _ => .noread
  | _, .noread => .noread
  | _, _ => .matched

/-- The outcomes of the masked lanes, from the lane of number `lane` on (R96). -/
def State.maskedOutcomes (s : State) (i : Int) (ns : List Num) : Nat → List LaneEntry → List Verification
  | _, [] => []
  | lane, e :: es =>
    if s.policy.mask.has lane then s.laneOutcome i ns lane e :: s.maskedOutcomes i ns (lane + 1) es
    else s.maskedOutcomes i ns (lane + 1) es

/-- The set's result over the masked lanes (R96). -/
def State.setResult (s : State) (i : Int) (ns : List Num) (lanes : List LaneEntry) : Verification :=
  (s.maskedOutcomes i ns 1 lanes).foldl worse .matched

/-- A result is a failure of the read-fail monitor (R98). -/
def Verification.failure : Verification → Bool
  | .mismatch _ _ _ => true
  | .noread => true
  | .matched => false
  | .notYet => false
  | .off => false

/-! ### Taking a result -/

/-- A result for an Open record, with verification on (R96, R98). -/
def applyResult (i : Nat) (r : SetRecord) (lanes : List LaneEntry) (s : State) : State :=
  readFailEvent (s.setResult i r.numbers lanes).failure (updateVerification i (s.setResult i r.numbers lanes) s)

/-- A late result, with verification on (R100). -/
def lateResult (i : Nat) (n : RetireNote) (lanes : List LaneEntry) (s : State) : State :=
  let v := s.setResult i n.numbers lanes
  let s1 := readFailEvent v.failure s
  if v.failure then takeSuspect i n.numbers (n.bundle.getD 0) true s1 else s1

/-- The oldest entry resolved with a result (R93, R97, R100). -/
def resolveEntry (e : ReaderEntry) (lanes : List LaneEntry) (s : State) : State :=
  match e.kind, e.index with
  | .blank, _ => s
  | .set, .negSucc _ => s
  | .set, .ofNat i =>
    match e.note with
    | some n =>
      match n.disposition with
      | .culled => s
      | .delivered => if s.policy.verify then lateResult i n lanes s else s
    | none =>
      match s.lookup i with
      | .opened r => if s.policy.verify then applyResult i r lanes s else s
      | .pending _ _ => s
      | .retired _ => s
      | .none => s

/-- A well-formed RESULT (R92, R93). -/
def takeResult (lanes : List LaneEntry) (s : State) : State :=
  match s.reader.state with
  | .reading =>
    match s.reader.queue with
    | [] => suspendReader .faulted s
    | e :: rest => resolveEntry e lanes (s.mapReader fun r => { r with queue := rest })
  | .idle => s
  | .lagging => s
  | .faulted => s
  | .skewed => s

/-- A well-formed READERFAULT (R92). -/
def takeReaderFault (code : Nat) (s : State) : State :=
  let s1 := s.mapReader fun r => { r with code := code }
  match s.reader.state with
  | .reading => suspendReader .faulted s1
  | .idle => s1
  | .lagging => s1
  | .faulted => s1
  | .skewed => s1

/-- A malformed message (R89, R92). -/
def takeReaderMalformed (s : State) : State :=
  match s.reader.state with
  | .reading => suspendReader .faulted s
  | .idle => s
  | .lagging => s
  | .faulted => s
  | .skewed => s

/-- A good frame of the reader port, read and taken (R89). -/
def readerMessage (kind : Byte) (pl : List Byte) (s : State) : State :=
  match ReaderMessage.ofFrame s.scheme.lanes kind pl with
  | some (.result lanes) => takeResult lanes s
  | some (.readerfault code) => takeReaderFault code s
  | none => takeReaderMalformed s

/-! ### Retire notes and resume -/

/-- A retire note written on a SET entry of the index that has none (R99). -/
def ReaderEntry.withNote (i : Nat) (n : RetireNote) (e : ReaderEntry) : ReaderEntry :=
  if e.index = (i : Int) ∧ e.kind = .set ∧ e.note = none then { e with note := some n } else e

/-- The gate's hand-off of a retirement (R99). -/
def noteRetirement (i : Nat) (n : RetireNote) (s : State) : State :=
  if s.reader.state = .reading then s.mapReader fun r => { r with queue := r.queue.map (ReaderEntry.withNote i n) }
  else s

/-- An accepted READER_RESUME (R102). -/
def resumeReader (s : State) : State :=
  let s1 := realign .reader (s.mapReader fun r => { r with queue := [] })
  unlatch .readerSkew (unlatch .readerFault (s1.mapReader fun r => { r with state := .reading, code := 0 }))

end Sys2Proof.Machine
end

