-- ==== Sys2Proof/Machine/Gate.lean ====
section
/-! DEFINITION. The gate unit: decision, cull causes, retirement, the gate cue (R56, R57, R105 to R116). -/

namespace Sys2Proof.Machine
open Sys2Proof

/-! ### Decision (R107, R108) -/

/-- The status of the lowest-numbered engaged ply that is not PRINTED (R108). -/
def SetRecord.firstUnprinted (r : SetRecord) : Option PlyStatus :=
  r.plies.toList.findSome? fun x =>
    match x with
    | none => none
    | some st => if st = .printed then none else some st

/-- The cause a ply status gives (Table 46, rank 3). -/
def PlyStatus.cause : PlyStatus → VoidCause
  | .waiting => .unfinished | .loaded => .unfinished | .printed => .unfinished
  | .misfire => .misfire | .skipped => .skipped | .late => .late
  | .faulted => .faulted | .spliced => .spliced | .skewed => .skewed

/-- The cause verification gives, none where it passes (Table 46, ranks 5 to 7). -/
def Verification.cause (u : UnverifiedPolicy) : Verification → Option VoidCause
  | .mismatch _ _ _ => some .mismatch
  | .noread => some .noread
  | .notYet => match u with | .cull => some .unverified | .deliver => none
  | .matched => none
  | .off => none

/-- The cause of the cull, or none for delivery (R107, Table 46). -/
def cullCause (gateSkew : Bool) (u : UnverifiedPolicy) (r : SetRecord) : Option VoidCause :=
  if r.hostCull then some .hostCull
  else if gateSkew then some .gateSkew
  else
    match r.firstUnprinted with
    | some st => some st.cause
    | none =>
      match r.marriage with
      | .skewed => some .marriageSkew
      | .notYet => some .unmarried
      | .married => r.verification.cause u

/-! ### Accounting of a retirement -/

/-- A delivered set's counters (R110). -/
def Counters.deliver (c : Counters) (numbers : Nat) : Counters :=
  { c with delivered := c.delivered.raise numbers, setsDelivered := c.setsDelivered.raise 1 }

/-- The trace of a retired set (R44). -/
def SetRecord.trace (r : SetRecord) (d : Disposition) (bundle : Option Nat) : Trace := ⟨r.index, d, r.numbers, bundle⟩

/-- An exception appended to the open bundle (R119). -/
def addException (e : BundleException) (s : State) : State := mapBundle (OpenBundle.addException e) s

/-- The accounting write of a delivery (R110, R113, R118, R121). -/
def deliverWrite (r : SetRecord) (s : State) : State :=
  let bundle := s.acct.bundle.map OpenBundle.number
  let s1 := s.mapCounters fun c => c.deliver r.numbers.length
  let s2 := s1.mapTable fun t => t.putTrace (r.trace .delivered bundle)
  let s3 := mapBundle (OpenBundle.addSet s.scheme s.policy.bundleSize r.kind r.numbers) s2
  match r.kind with
  | .regular => endWrite (closeAtRetirement true false (moveRetired r.numbers s3))
  | .remake =>
    endWrite (closeAtRetirement true true
      (addException ⟨.remade, r.index, r.numbers, .delivered⟩ (removeEntry (r.entry.getD 0) s3)))

/-- A set's numbers voided with a cause, its trace kept, or the record left VOID_PENDING with its row (R56, R57,
R111); with the disposition its exception shows. -/
def voidSet (r : SetRecord) (c : VoidCause) (s : State) : State × ExceptionDisp :=
  if s.logRoom r.numbers.length then
    ((writeVoids true (voidRecords (s.scheme.withLanes r.numbers) c (some r.index) 0 false) s).mapTable
      fun t => t.putTrace (r.trace .culled none), .voided)
  else
    ((addRow ⟨some r.index, s.scheme.withLanes r.numbers, c, 0, false⟩ s).mapTable
      fun t => t.putRecord { r with state := .voidPending, pendingCause := some c }, .voidPending)

/-- What becomes of a culled REGULAR set's numbers (R111). -/
def cullRegular (r : SetRecord) (c : VoidCause) (s : State) : State × ExceptionDisp :=
  match s.policy.cullPolicy with
  | .void => voidSet r c s
  | .remake =>
    if s.acct.register.length < Config.registerSize then
      ((createEntry r.numbers c s).mapTable fun t => t.putTrace (r.trace .culled none), .remake)
    else voidSet r .remakeFull s

/-- What becomes of a culled REMAKE set's register entry (R112). -/
def cullEntry (e : RemakeEntry) (c : VoidCause) (i : Nat) (s : State) : State × ExceptionDisp :=
  if e.attempts < s.policy.attemptLimit then (requeueEntry e s, .remake)
  else
    (voidEntry true e c (some i) true s, if s.logRoom e.numbers.length then .voided else .voidPending)

/-- A culled REMAKE set (R112). -/
def cullRemake (r : SetRecord) (c : VoidCause) (s : State) : State × ExceptionDisp :=
  let s1 := s.mapTable fun t => t.putTrace (r.trace .culled none)
  match s.entryNo (r.entry.getD 0) with
  | none => (s1, .voided)
  | some e => cullEntry { e with attempts := r.attempt } c r.index s1

/-- The accounting write of a cull (R111 to R113, R119, R121). -/
def cullWrite (r : SetRecord) (c : VoidCause) (s : State) : State :=
  let s1 := s.mapCounters fun k => { k with setsCulled := k.setsCulled.raise 1 }
  let x :=
    match r.kind with
    | .regular => cullRegular r c (moveRetired r.numbers s1)
    | .remake => cullRemake r c s1
  endWrite (closeAtRetirement false true (addException ⟨.culled, r.index, r.numbers, x.2⟩ x.1))

/-- A retirement, in the order of R113. -/
def retire (r : SetRecord) (cause : Option VoidCause) (s : State) : State :=
  let bundle := s.acct.bundle.map OpenBundle.number
  let s1 :=
    match cause with
    | none =>
      spoilEvent false (noteRetirement r.index ⟨.delivered, r.numbers, bundle⟩ (deliverWrite r s))
    | some c =>
      spoilEvent true (noteRetirement r.index ⟨.culled, r.numbers, none⟩ (cullWrite r c s))
  reportFull s.manifestsFull (completionCheck s1)

/-! ### The gate cue -/

/-- A passed-over record culled: HOST_CULL if it is marked, otherwise GATE_SKEW (R106, Table 46). -/
def retirePassed (i : Nat) (s : State) : State :=
  match s.table.openAt i with
  | some r => retire r (some (if r.hostCull then .hostCull else .gateSkew)) s
  | none => s

/-- The passed-over records of a gate cue, in increasing index order (R106). -/
def passOver (i : Nat) (s : State) : State :=
  (s.table.openIndices.filter fun j => decide (j < i)).foldl (fun s j => retirePassed j s) s

/-- DIVERT set (R109). -/
def setDivert (b : Bool) (s : State) : State := s.mapGate fun g => { g with divert := b }

/-- A waste form (R105). -/
def waste (s : State) : State :=
  endWrite (setDivert true (s.mapCounters fun c => { c with setsWaste := c.setsWaste.raise 1 }))

/-- The form of the cue's own index: decided and retired, or waste (R105, R109). -/
def gateForm (i : Nat) (s : State) : State :=
  match s.lookup i with
  | .opened r =>
    let c := cullCause (s.tracker.gate.state == .skewed) s.policy.unverified r
    retire r c (setDivert c.isSome s)
  | .pending _ _ => waste s
  | .retired _ => waste s
  | .none => waste s

/-- A cue at the gate station (R4, R105). -/
def gateCue (s : State) : State :=
  if s.inJob .gate then
    match s.tracker.gate.cueIndex with
    | .negSucc _ => waste (countCue .gate s)
    | .ofNat i => gateForm i (passOver i (countCue .gate s))
  else s

/-- An accepted GATE_RESUME (R116). -/
def resumeGate (s : State) : State := unlatch .gateSkew (realign .gate s)

/-- The jog width has passed (R124). -/
def endJog (s : State) : State := s.mapGate fun g => { g with jog := none }

end Sys2Proof.Machine
end

