-- ==== Sys2Proof/Machine/Lines.lean ====
section
/-! DEFINITION. The line unit: asserted and conditioned levels, debounce, consumers, line settings (R12 to R15). -/

namespace Sys2Proof.Machine
open Sys2Proof

/-- The setting of a line. -/
def State.setting (s : State) (l : LineId) : LineSetting := s.acct.lineSettings.lines.get l

/-- The asserted level: the electrical level with the polarity applied (R12). -/
def State.asserted (s : State) (l : LineId) : Bool := s.part.lineHigh.get l != (s.setting l).activeLow

/-- A debounce interval in ms; 0 for off (R12). -/
def Debounce.interval : Debounce → Nat
  | .off => 0 | .ms2 => 2 | .ms20 => 20

/-- The line unit rewritten. -/
def State.mapLines (s : State) (f : LineUnit → LineUnit) : State := { s with lines := f s.lines }

/-- The pending change of a line: none, or the whole ms it has lasted (R12). -/
def setPending (l : LineId) (x : Option Nat) (s : State) : State :=
  s.mapLines fun u => { u with pending := u.pending.set l x }

/-- The LINE report of a change, where the line has one and its report enable is set (R14). -/
def reportLine (l : LineId) (level : Bool) (s : State) : State :=
  match l with
  | .prun => if s.acct.lineSettings.reportPrun then raiseReport (lineReport 0 level) s else s
  | .key => if s.acct.lineSettings.reportKey then raiseReport (lineReport 1 level) s else s
  | .wbrk => if s.acct.lineSettings.reportWbrk then raiseReport (lineReport 2 level) s else s
  | .spl _ => s

/-- The consumer of a change of conditioned level (Table 12). -/
def lineConsumer (l : LineId) (level : Bool) (s : State) : State :=
  match l with
  | .prun => s
  | .key => s
  | .wbrk => if level then latch .webBreak s else s
  | .spl p => if level then openSplice p s else s

/-- A change taken into the conditioned level: the level follows the asserted level, the report is raised and the
consumer acts (R12 to R14). -/
def takeLine (l : LineId) (s : State) : State :=
  let level := s.asserted l
  lineConsumer l level
    (reportLine l level
      (s.mapLines fun u => { conditioned := u.conditioned.set l level, pending := u.pending.set l none }))

/-- The asserted level of a line has changed: back at the conditioned level the pending change is dropped, otherwise
a change begins timing, or is taken at once with debounce off (R12). -/
def assertedChanged (l : LineId) (s : State) : State :=
  if s.asserted l = s.lines.conditioned.get l then setPending l none s
  else
    match (s.setting l).debounce with
    | .off => takeLine l s
    | .ms2 => setPending l (some 0) s
    | .ms20 => setPending l (some 0) s

/-- The electrical level of an input as the outside gives it. -/
def setLevel (l : LineId) (high : Bool) (s : State) : State :=
  { s with part := { s.part with lineHigh := s.part.lineHigh.set l high } }

/-- A strap pin takes a level; it is read at the next reset, and at no other time (R66, R180). -/
def setStraps (f : Straps → Straps) (s : State) : State := { s with part := { s.part with straps := f s.part.straps } }

/-- The level of an input pin as the outside gives it. -/
def setPin (x : InputPin) (high : Bool) (s : State) : State :=
  match x with
  | .line l => setLevel l high s
  | .fit p => setStraps (fun u => { u with fit := u.fit.set p high }) s
  | .baud1 => setStraps (fun u => { u with baud1 := high }) s
  | .baud0 => setStraps (fun u => { u with baud0 := high }) s

/-- A line input takes a level (R12). -/
def lineInput (l : LineId) (high : Bool) (s : State) : State :=
  if s.part.lineHigh.get l = high then s else assertedChanged l (setLevel l high s)

/-- An input pin of a live part takes a level: a line input is conditioned (R12), a strap waits for the next reset
(R180). -/
def pinInput (x : InputPin) (high : Bool) (s : State) : State :=
  match x with
  | .line l => lineInput l high s
  | .fit p => setPin (.fit p) high s
  | .baud1 => setPin .baud1 high s
  | .baud0 => setPin .baud0 high s

/-- A pending change has held for its interval (R12). -/
def debounceExpired (l : LineId) (s : State) : State :=
  match s.lines.pending.get l with
  | some _ => takeLine l s
  | none => s

/-- One ms passes on a line: a pending change that has now held for its interval is taken (R12). -/
def tickLine (l : LineId) (s : State) : State :=
  match s.lines.pending.get l with
  | some e =>
    if (s.setting l).debounce.interval ≤ e + 1 then takeLine l s else setPending l (some (e + 1)) s
  | none => s

/-- A line after new settings: a changed polarity inverts the asserted level; a pending change that goes on keeps its
time, and is taken if that covers the new interval (R15). -/
def settleLine (old : LineSettings) (l : LineId) (s : State) : State :=
  if (old.lines.get l).activeLow ≠ (s.setting l).activeLow then assertedChanged l s
  else
    match s.lines.pending.get l with
    | some e => if (s.setting l).debounce.interval ≤ e then takeLine l s else s
    | none => s

/-- All the settings replaced in one write, and their effects line by line, in the order of Table 13 (R15; log entry
9). -/
def applyLines (x : LineSettings) (s : State) : State :=
  LineId.all.foldl (fun t l => settleLine s.acct.lineSettings l t)
    (endWrite (s.mapAcct fun a => { a with lineSettings := x }))

/-- Conditioning begins from the inactive level after a reset (R13, R172 step 6). Lines with debounce off that are
asserted change at once, in the order PRUN, KEY, WBRK, SPL1 to SPL6, so their LINE reports stand in that order: the
manual gives none (DESIGN CHOICE, log entry 9). -/
def beginLines (s : State) : State := LineId.all.foldl (fun t l => assertedChanged l t) s

end Sys2Proof.Machine
end

