-- ==== Sys2Proof/Machine/Resets.lean ====
section
/-! DEFINITION. The three kinds of reset, start-up and entry to RECOVERY (R171 to R173, Table 73). -/

namespace Sys2Proof.Machine
open Sys2Proof

/-- The rate the BAUD straps give (Table 76). -/
def rateOf (baud1 baud0 : Bool) : Nat :=
  match baud1, baud0 with
  | false, false => 115200
  | false, true => 460800
  | true, false => 921600
  | true, true => 115200

/-- The state of a channel outside a run: UNFITTED, or by engagement IDLE or DISENGAGED (R66). -/
def restState (fitted engaged : Bool) : ChannelState :=
  if fitted then (if engaged then .idle else .disengaged) else .unfitted

/-- The control link after a reset, at a rate (Table 77). -/
def Link.afterReset (rate : Nat) : Link := ⟨[], none, none, none, false, [], false, false, rate⟩

/-- Step 1 of a reset: every volatile block takes its value of Table 73, frames being sent are cut off (R172). -/
def clearVolatile (kind : ResetKind) (s : State) : State :=
  { s with
    part := { s.part with lastReset := kind }
    link := Link.afterReset s.link.rate
    rxControl := .hunting
    rxHead := PerPly.const .hunting
    rxReader := .hunting
    headTx := PerPly.const []
    lines := ⟨PerLine.const false, PerLine.const none⟩
    tracker := Tracker.afterReset
    table := ⟨[], 0⟩
    heads := PerPly.ofFn fun p => Channel.cleared (restState (s.fitted.get p) (s.engaged p))
    reader := ⟨.idle, [], 0, 0⟩
    gate := ⟨true, none, 0⟩
    control := ⟨HoldSet.empty, StopSet.empty⟩ }

/-- Step 2: the straps, at the levels x, are read: the fitted channels and the rate of every link (R66, R172, R180). -/
def readStraps (x : Straps) (s : State) : State :=
  { s with
    part := { s.part with straps := x }
    link := { s.link with rate := rateOf x.baud1 x.baud0 }
    fitted := x.fit
    heads := PerPly.ofFn fun p => Channel.cleared (restState (x.fit.get p) (s.engaged p)) }

/-- An entry IN_FLIGHT becomes DOUBT, its set index dropped (R173). -/
def RemakeEntry.doubted (e : RemakeEntry) : RemakeEntry :=
  if e.state = .inFlight then { e with state := .doubt, setIndex := none } else e

/-- The write that puts a running job in RECOVERY (R173). -/
def enterRecovery (s : State) : State :=
  let s1 := s.mapAcct fun a => { a with register := a.register.map RemakeEntry.doubted }
  endWrite (changeJob .recovery (s1.mapHeader fun h => { h with savedReturn := none }))

/-- The low flag takes the value the fill gives it (R134). -/
def deriveLow (s : State) : State :=
  s.mapAcct fun a => { a with log := { a.log with low := fillLow a.log.records.length } }

/-- Steps 2 to 6 of a reset (R172). -/
def startUp (x : Straps) (s : State) : State :=
  let s1 := deriveLow (readStraps x s)
  let s2 := if s1.jobState.inRun then enterRecovery s1 else s1
  let s3 := if s2.jobState = .recovery then latch .powerLoss s2 else s2
  beginLines s3

/-- A whole reset of the part (R171, R172). -/
def resetPart (kind : ResetKind) (x : Straps) (s : State) : State := startUp x (clearVolatile kind s)

/-- A power-on: the whole reset, or its first step while RSTn is still active (R171). -/
def powerOn (x : Straps) (s : State) : State :=
  let s1 := { s with part := { s.part with powered := true, straps := x } }
  if s.part.rstn then clearVolatile .powerOn s1 else resetPart .powerOn x s1

/-- The supply falls out of range: the part stops, the last `lost` accounting writes of the last step absent
(R170, R171). -/
def powerFail (lost : Nat) (s : State) : State :=
  if s.part.powered then
    { s with acct := s.acctLosing lost, journal := [], part := { s.part with powered := false } }
  else s

/-- RSTn becomes active: the operation in progress ends as R170 says, and step 1 of the reset is taken (R171). -/
def rstnFall (lost : Nat) (s : State) : State :=
  if s.part.rstn then s
  else if s.part.powered then
    clearVolatile .rstn
      { s with acct := s.acctLosing lost, journal := [], part := { s.part with rstn := true } }
  else { s with part := { s.part with rstn := true } }

/-- RSTn returns inactive: start-up completes (R171). -/
def rstnRise (x : Straps) (s : State) : State :=
  if s.part.rstn then
    let s1 := { s with part := { s.part with rstn := false } }
    if s.part.powered then startUp x (openJournal s1) else s1
  else s

end Sys2Proof.Machine
end

