-- ==== Sys2Proof/Machine/Jobs.lean ====
section
/-! DEFINITION. The job controller's operations: definition, COMMIT, START, ABORT, CLOSE, JUMP_IF, RECOVER, STOP_CLEAR
(R63, R149 to R179). -/

namespace Sys2Proof.Machine
open Sys2Proof

/-! ### Definition and COMMIT -/

/-- A definition block replaced in one write, which returns a LOADED job to IDLE and discards the lane starts
(R36, R153). -/
def defineBlock (f : JobDef → JobDef) (s : State) : State :=
  let s1 := s.mapAcct fun a => { a with job := f a.job }
  let s2 :=
    if s.jobState = .loaded then changeJob .idle (s1.mapAcct fun a => { a with laneStarts := [] }) else s1
  refreshChannels (endWrite s2)

/-- The number of the first conflict check of Table 66 that fails (R37, R154). -/
def State.conflict (s : State) : Option Nat :=
  let g := s.acct.job.geometry
  let c := s.scheme
  if !(Ply.all.any g.engaged.get) || !(Ply.all.all fun p => !g.engaged.get p || s.fitted.get p) then some 1
  else if g.gateG ≤ g.readerV then some 2
  else if !c.startOk then some 3
  else if c.method = .mod11s ∧ (c.stepK ≠ 1 ∨ c.mode = .split) then some 4
  else if !s.policy.mask.within c.lanes then some 5
  else if c.method ≠ .mod11s ∧ !c.holds c.startPos c.itemsNeeded then some 6
  else none

/-- COMMIT's write: the lane starts and LOADED (R154). -/
def commitJob (s : State) : State :=
  endWrite (changeJob .loaded (s.mapAcct fun a => { a with laneStarts := a.job.scheme.laneStarts }))

/-! ### START -/

/-- The volatile blocks set up for a run (R156). -/
def setUpRun (s : State) : State :=
  let t := Tracker.started s.acct.job.geometry
  { s with
    tracker := t
    table := ⟨[], 0⟩
    heads := PerPly.ofFn fun p => (s.heads.get p).started (s.engaged p) ((t.heads.get p).delay.getD 0)
    reader := ⟨.reading, [], 0, 0⟩
    gate := { s.gate with divert := true, spoilRun := 0 } }

/-- The accounting of a new job (R117, R144, R145, R147, R156). -/
def Accounting.newJob (a : Accounting) : Accounting :=
  { a with
    header :=
      { a.header with
        jobId := a.job.scheme.jobId
        marks := a.job.scheme.streamStarts.map fun n => ⟨.item n, .item n⟩
        jumpList := [] }
    counters := Counters.zero
    log := { a.log with freed := 0 }
    nextEntry := 1
    bundle := some (OpenBundle.fresh 1 a.job.scheme.lanes) }

/-- The hold causes that already apply at START (R134, R156, R157). -/
def raiseStanding (s : State) : State :=
  let s1 := if s.acct.log.low then endWrite (raiseHold .log s) else s
  if s1.manifestsFull then endWrite (raiseHold .manifest s1) else s1

/-- An accepted START from LOADED (R156). -/
def startNew (s : State) : State :=
  raiseStanding (endWrite (changeJob .running ((setUpRun s).mapAcct Accounting.newJob)))

/-- An accepted START from RESUMABLE (R156, R178). -/
def startResumed (s : State) : State :=
  if 0 < s.remaining then raiseStanding (endWrite (changeJob .running (setUpRun s)))
  else raiseStanding (completionCheck (endWrite (changeJob .draining (setUpRun s))))

/-- Accounting memory is ready for a new job (R155). -/
def State.drained (s : State) : Bool :=
  s.acct.log.records.isEmpty && s.acct.register.isEmpty && s.acct.manifests.isEmpty && s.acct.rows.isEmpty

/-! ### HOLD and RELEASE -/

/-- RELEASE carried out: HOST withdrawn, the saved return state entered (R159, R161). -/
def releaseHold (s : State) : State :=
  let back := s.acct.header.savedReturn.getD .running
  let s1 := (withdrawHold .host s).mapHeader fun h => { h with savedReturn := none }
  let s2 := endWrite (changeJob back s1)
  if back = .draining then completionCheck s2 else s2

/-! ### ABORT -/

/-- A record leaves its slot, which becomes EMPTY (R63). -/
def leaveSlot (i : Nat) (s : State) : State := s.mapTable fun t => { t with slots := clearSlot (slotOf i) t.slots }

/-- A pending-void row removed. -/
def removeRow (w : PendingRow) (s : State) : State := s.mapAcct fun a => { a with rows := a.rows.erase w }

/-- One table record disposed of by ABORT (R63, R163). -/
def abortRecord (i : Nat) (s : State) : State :=
  match s.table.recordAt i with
  | none => s
  | some r =>
    match r.state, r.kind with
    | .voidPending, _ =>
      match s.rowAt i with
      | none => s
      | some w =>
        if s.logRoom w.numbers.length then
          endWrite
            (leaveSlot i
              (removeRow w (writeVoids false (voidRecords w.numbers w.cause w.setIndex w.attempts w.exhausted) s)))
        else s
    | .opened, .remake => endWrite (leaveSlot i s)
    | .opened, .regular =>
      let s1 := moveRetired r.numbers s
      if s.logRoom r.numbers.length then
        endWrite
          (leaveSlot i (writeVoids false (voidRecords (s.scheme.withLanes r.numbers) .aborted (some i) 0 false) s1))
      else
        endWrite
          ((addRow ⟨some i, s.scheme.withLanes r.numbers, .aborted, 0, false⟩ s1).mapTable
            fun t => t.putRecord { r with state := .voidPending, pendingCause := some .aborted })

/-- One register entry disposed of by ABORT (R141, R163). -/
def abortEntry (e : RemakeEntry) (s : State) : State :=
  match e.state with
  | .waiting => endWrite (voidEntry false e .aborted none false s)
  | .inFlight => endWrite (voidEntry false e .aborted none false s)
  | .doubt => endWrite (voidEntry false e .powerLoss none false s)
  | .voidPending => s

/-- Every retirement trace leaves the table (R63). -/
def clearTraces (s : State) : State :=
  s.mapTable fun t =>
    { t with slots := t.slots.filter fun x => match x with | .record _ => true | .trace _ => false }

/-- Step 1 of ABORT: the run stops, hold causes are cleared, the saved return state is discarded (R163). -/
def abortStop (s : State) : State :=
  let s1 := if s.jobState.inRun then stopRun s else s
  (s1.mapControl fun k => { k with holds := HoldSet.empty }).mapHeader fun h => { h with savedReturn := none }

/-- Step 2 of ABORT: the table's records, in increasing index order, then the traces (R63, R163). -/
def abortTable (s : State) : State :=
  clearTraces (s.table.recordIndices.foldl (fun s i => abortRecord i s) s)

/-- Step 3 of ABORT: the register, in register order (R163). -/
def abortRegister (s : State) : State := s.acct.register.foldl (fun s e => abortEntry e s) s

/-- Step 4 of ABORT: the in-doubt sets, from RECOVERY alone (R163, R179). -/
def abortDoubt (s : State) : State :=
  if s.jobState = .recovery then s.doubtSets.foldl (fun s ns => voidDoubtSet false ns s) s else s

/-- Step 5 of ABORT: marks, ABORTED close and ABORTED, in one write (R163). -/
def abortEnd (s : State) : State := endWrite (changeJob .aborted (askClose .aborted (settleMarks s)))

/-- ABORT of a job that is disposed of (R163). -/
def abortJob (s : State) : State := abortEnd (abortDoubt (abortRegister (abortTable (abortStop s))))

/-- ABORT from LOADED (R162). -/
def abortLoaded (s : State) : State :=
  endWrite (changeJob .idle (s.mapAcct fun a => { a with laneStarts := [] }))

/-- The close byte of ABORT's reply (R201). -/
def abortCloseByte (before after : State) : Byte :=
  match before.acct.bundle, after.acct.bundle with
  | none, _ => 0xFF#8
  | some _, none => 0#8
  | some _, some _ => 1#8

/-! ### CLOSE -/

/-- Accounting memory after CLOSE (R164). -/
def Accounting.closed (a : Accounting) : Accounting :=
  { a with
    header := { a.header with jobId := 0, marks := [], jumpList := [], savedReturn := none }
    job := JobDef.default
    laneStarts := []
    log := { a.log with freed := 0 }
    nextEntry := 1
    counters := Counters.zero }

/-- An accepted CLOSE (R164). -/
def closeJob (s : State) : State := refreshChannels (endWrite (changeJob .idle (s.mapAcct Accounting.closed)))

/-! ### JUMP_IF -/

/-- The range of a jump joins the jump list, extending the last range where it ends one step before (R169). -/
def addJump (c : Scheme) (r : JumpRange) (js : List JumpRange) : List JumpRange :=
  match js.reverse with
  | [] => [r]
  | l :: before =>
    if c.markAfter l.last = .item (c.numAt (c.posOf r.first)) then (⟨l.first, r.last⟩ :: before).reverse else js ++ [r]

/-- The one stream's allocation mark replaced (R133). -/
def Header.jumpTo (c : Scheme) (h : Header) (r : JumpRange) (new : Num) : Header :=
  match h.marks with
  | [] => h
  | m :: ms =>
    Header.settleJumps c { h with marks := { m with alloc := .item new } :: ms, jumpList := addJump c r h.jumpList }

/-- A jump from the current next number to a new one (R133, R165, R169). -/
def makeJump (cur new : Num) (s : State) : State :=
  let c := s.scheme
  let target := c.numAt (c.posOf new)
  let first : Num := { cur with check := c.checkOf cur.serial }
  let last := c.numAt (c.stepBackPos (c.posOf new))
  let s1 := appendVoids true [⟨first, 0, .jumped, none, 0, false, some last⟩] s
  let s2 := s1.mapCounters fun k => { k with jumped := k.jumped.raise (c.distance (c.posOf cur) (c.posOf new)) }
  endWrite (s2.mapHeader fun h => h.jumpTo c ⟨first, last⟩ target)

/-- The tests of a new next number against the current one (R165 step 4). -/
def State.jumpFits (s : State) (cur new : Num) : Bool :=
  let c := s.scheme
  c.onStream (c.posOf new) && c.forward (c.posOf cur) (c.posOf new)
    && (c.method == .mod11s || c.holds (c.posOf new) (s.remaining * c.numbersPerSet))
    && decide (s.acct.counters.jumped.value + c.distance (c.posOf cur) (c.posOf new) ≤ Config.counterCeiling)

/-! ### RECOVER -/

/-- One DOUBT entry disposed of by RECOVER (R175, R176). -/
def recoverEntry (remake : Bool) (e : RemakeEntry) (s : State) : State :=
  if e.state = .doubt then
    endWrite (if remake then requeueEntry e s else voidEntry true e .powerLoss none false s)
  else s

/-- One in-doubt set disposed of by RECOVER (R175, R176). -/
def recoverSet (remake : Bool) (ns : List Num) (s : State) : State :=
  if remake && decide (s.acct.register.length < Config.registerSize) then
    endWrite (moveRetired ns (createEntry ns .powerLoss s))
  else voidDoubtSet true ns s

/-- RECOVER's closing write (R177). -/
def recoverEnd (s : State) : State := endWrite (changeJob .resumable (settleMarks s))

/-- An accepted RECOVER (R175 to R177). -/
def recoverJob (remake : Bool) (s : State) : State :=
  let s1 := s.acct.register.foldl (fun s e => recoverEntry remake e s) s
  recoverEnd (s1.doubtSets.foldl (fun s ns => recoverSet remake ns s) s1)

/-! ### STOP_CLEAR -/

/-- The condition of a latched cause has ended (Table 71). -/
def State.causeEnded (s : State) : StopCause → Bool
  | .headFault p => (s.heads.get p).state != .faulted
  | .skew p => (s.heads.get p).state != .faulted
  | .readerFault => !s.reader.state.suspended && s.tracker.reader.state != .skewed
  | .readerSkew => !s.reader.state.suspended && s.tracker.reader.state != .skewed
  | .gateSkew => s.tracker.gate.state != .skewed
  | .webBreak => !s.lines.conditioned.wbrk
  | .exhausted => !s.control.holds.exhausted
  | .powerLoss => s.jobState != .recovery
  | .readFail => true
  | .spoilRun => true

/-- The named causes that are latched and whose condition has ended are cleared (R167). -/
def clearStops (named : StopSet) (s : State) : State :=
  StopCause.all.foldl (fun t c => if named.has c && s.causeEnded c then unlatch c t else t) s

/-- The named causes that stay latched (R167). -/
def stayed (named latched : StopSet) : StopSet :=
  StopCause.all.foldl (fun x c => x.put c (named.has c && latched.has c)) StopSet.empty

end Sys2Proof.Machine
end

