-- ==== Sys2Proof/Machine/Requests.lean ====
section
/-! DEFINITION. The owners' answers to requests: the state after the request and the reply payload, status byte first
(Tables 78, 79, 96; R201). -/

namespace Sys2Proof.Machine
open Sys2Proof

/-- A request's outcome: the state as the owner leaves it, and the reply payload. -/
abbrev Answer := State × List Byte

/-- A reply that holds its status alone. -/
def Status.only (st : Status) : List Byte := [st.byte]

/-- A refusal: the status alone, no state changed. -/
def refuse (st : Status) (s : State) : Answer := (s, st.only)

/-- The STATE refusal with reason NOT_DRAINED (R194). -/
def refuseNotDrained (s : State) : Answer := (s, [Status.state.byte, 0x01#8])

/-- A CONFLICT refusal with its check number, 0 for RECOVER (R194). -/
def refuseConflict (n : Nat) (s : State) : Answer := (s, [Status.conflict.byte, byte n])

/-- An OK reply with its fields, and the state as the owner leaves it. -/
def okWith (fields : List Byte) (s : State) : Answer := (s, Status.ok.byte :: fields)

/-- The job state's byte. -/
def State.jobByte (s : State) : Byte := byte s.jobState.code

/-! ### Control link -/

/-- IDENT (R192). -/
def answerIdent (s : State) : Answer :=
  okWith
    (be16 Config.partCode ++ [byte Config.revision, plySetByte s.fitted] ++ s.fitted.toList.map flagByte ++ [1#8]
      ++ be32 s.link.rate ++ be16 Config.logSize
      ++ [byte Config.registerSize, byte Config.manifestSize, byte Config.exceptionLimit]
      ++ be16 Config.rowLimit ++ be16 Config.jumpLimit) s

/-- A station in the STATUS reply (Table 96). -/
def Station.bytes (x : Station) : List Byte := [byte x.state.code, flagByte x.prevSkew] ++ be32 x.count

/-- A channel in the STATUS reply (Table 96). -/
def Channel.bytes (c : Channel) : List Byte :=
  [byte c.state.code, if c.state = .faulted then byte (FaultCause.code c.cause) else 0#8, byte c.code,
   byte c.queue.length]

/-- The conditioned lines of the STATUS reply (Table 96). -/
def State.lineBytes (s : State) : List Byte :=
  let c := s.lines.conditioned
  [byte (bitsByte [c.prun, c.key, c.wbrk]), byte (bitsByte c.spl.toList)]

/-- The open bundle of the STATUS reply: number and sets delivered, 0 where there is none (Table 96). -/
def State.bundleBytes (s : State) : List Byte :=
  match s.acct.bundle with
  | some b => be32 b.number ++ be16 b.sets
  | none => be32 0 ++ be16 0

/-- The saved return state's byte: 0xFF outside HOLD (Table 96). -/
def State.savedByte (s : State) : Byte :=
  if s.jobState = .hold then s.acct.header.savedReturn.elim 0xFF#8 fun j => byte j.code else 0xFF#8

/-- The fields of the STATUS reply (R193, Table 96). -/
def State.statusFields (s : State) : List Byte :=
  [s.jobByte, s.savedByte, s.control.holds.byte] ++ s.control.stops.bytes
    ++ [flagByte s.stopLine, byte s.part.lastReset.code] ++ s.lineBytes
    ++ (StationId.all.map fun i => (s.tracker.get i).bytes).flatten
    ++ be16 s.table.fill ++ be40 s.table.frontier
    ++ (s.heads.toList.map Channel.bytes).flatten
    ++ [byte s.reader.state.code, byte s.reader.queue.length, byte s.reader.readFail, byte s.reader.code,
        byte s.gate.spoilRun, flagByte s.gate.divert]
    ++ s.bundleBytes
    ++ [byte s.acct.manifests.length, flagByte s.acct.log.low, byte s.link.queue.length,
        byte s.link.reports.length, flagByte s.link.reportsLost]

/-- STATUS, which clears the reports-lost flag (R191, R193). -/
def answerStatus (s : State) : Answer :=
  okWith s.statusFields (s.mapLink fun l => { l with reportsLost := false })

/-- RESET: the reset waits for its reply to be sent (R171). -/
def answerReset (s : State) : Answer := okWith [] (s.mapLink fun l => { l with resetAwaiting := true })

/-! ### Line settings and definition -/

/-- SET_LINES (R15). -/
def answerSetLines (pl : List Byte) (s : State) : Answer :=
  if s.jobState.inRun then refuse .state s
  else
    match LineSettings.ofPayload pl with
    | none => refuse .range s
    | some x => okWith x.bytes (applyLines x s)

/-- The definition requests are taken in IDLE and LOADED (R153). -/
def State.definable (s : State) : Bool := s.jobState == .idle || s.jobState == .loaded

/-- SET_GEOMETRY (R151, R153). -/
def answerSetGeometry (pl : List Byte) (s : State) : Answer :=
  if s.definable then
    match Geometry.ofPayload pl with
    | none => refuse .range s
    | some g =>
      let s1 := defineBlock (fun j => { j with geometry := g }) s
      okWith (s1.jobByte :: g.bytes) s1
  else refuse .state s

/-- The check byte the reply to SET_SCHEME gives the start number: the check of its serial under the scheme's method,
10 for X, 0xFF under NONE (R26 to R29, R196). -/
def Scheme.startCheckByte (c : Scheme) : Byte := checkByte (c.checkOf c.startSerial)

/-- SET_SCHEME (R18, R153). -/
def answerSetScheme (pl : List Byte) (s : State) : Answer :=
  if s.definable then
    match Scheme.ofPayload pl with
    | none => refuse .range s
    | some c =>
      let s1 := defineBlock (fun j => { j with scheme := c }) s
      okWith (s1.jobByte :: c.bytes c.startCheckByte) s1
  else refuse .state s

/-- SET_FORMAT (R38, R153). -/
def answerSetFormat (pl : List Byte) (s : State) : Answer :=
  if s.definable then
    match Format.ofPayload pl with
    | none => refuse .range s
    | some (p, f) =>
      let s1 := defineBlock (fun j => { j with formats := j.formats.set p f }) s
      okWith (s1.jobByte :: f.bytes p) s1
  else refuse .state s

/-- SET_POLICY (R152, R153). -/
def answerSetPolicy (pl : List Byte) (s : State) : Answer :=
  if s.definable then
    match Policy.ofPayload pl with
    | none => refuse .range s
    | some q =>
      let s1 := defineBlock (fun j => { j with policy := q }) s
      okWith (s1.jobByte :: q.bytes) s1
  else refuse .state s

/-- COMMIT (R154). -/
def answerCommit (s : State) : Answer :=
  if s.jobState = .idle then
    match s.conflict with
    | some n => refuseConflict n s
    | none =>
      let s1 := commitJob s
      okWith (byte s1.acct.laneStarts.length :: (s1.acct.laneStarts.map numField).flatten) s1
  else refuse .state s

/-! ### Run control -/

/-- An engaged ply's channel is UNFITTED (R155). -/
def State.unfittedEngaged (s : State) : Bool :=
  Ply.all.any fun p => s.engaged p && (s.heads.get p).state == .unfitted

/-- START (R155, R156). -/
def answerStart (s : State) : Answer :=
  match s.jobState with
  | .loaded =>
    if s.prun then refuse .pressRunning s
    else if s.unfittedEngaged then refuseConflict 1 s
    else if s.drained then okWith [(startNew s).jobByte] (startNew s)
    else refuseNotDrained s
  | .resumable =>
    if s.prun then refuse .pressRunning s
    else if s.unfittedEngaged then refuseConflict 1 s
    else if s.acct.rows.isEmpty then okWith [(startResumed s).jobByte] (startResumed s)
    else refuseNotDrained s
  | .idle => refuse .state s
  | .running => refuse .state s
  | .hold => refuse .state s
  | .draining => refuse .state s
  | .complete => refuse .state s
  | .aborted => refuse .state s
  | .recovery => refuse .state s

/-- The job state and hold causes a HOLD or RELEASE reply carries (R201). -/
def State.holdFields (s : State) : List Byte := [s.jobByte, s.control.holds.byte]

/-- HOLD (R158). -/
def answerHold (s : State) : Answer :=
  if s.jobState.inRun then
    let s1 := endWrite (raiseHold .host s)
    okWith s1.holdFields s1
  else refuse .state s

/-- RELEASE (R159). -/
def answerRelease (s : State) : Answer :=
  if s.jobState = .hold then
    if s.control.holds.beyondHost then (s, Status.causePersists.byte :: s.holdFields)
    else okWith (releaseHold s).holdFields (releaseHold s)
  else refuse .state s

/-- ABORT (R162). -/
def answerAbort (s : State) : Answer :=
  match s.jobState with
  | .loaded =>
    let s1 := abortLoaded s
    okWith ([s1.jobByte] ++ be32 0 ++ be16 s1.pendingVoids ++ [0xFF#8]) s1
  | .idle => refuse .state s
  | .complete => refuse .state s
  | .aborted => refuse .state s
  | .running => disposed
  | .hold => disposed
  | .draining => disposed
  | .recovery => disposed
  | .resumable => disposed
where
  /-- The reply of an ABORT that disposes of a job (R162, R201). -/
  disposed : Answer :=
    okWith
      ([(abortJob s).jobByte] ++ be32 ((abortJob s).logFill - s.logFill) ++ be16 (abortJob s).pendingVoids
        ++ [abortCloseByte s (abortJob s)]) (abortJob s)

/-- CLOSE (R164). -/
def answerClose (s : State) : Answer :=
  if s.jobState = .complete ∨ s.jobState = .aborted then
    if s.drained then okWith [] (closeJob s) else refuseNotDrained s
  else refuse .state s

/-- The mark field of the one stream's next regular number (R165). -/
def State.nextMark (s : State) : List Byte := markField (s.acct.header.marks.head?.map StreamMarks.alloc)

/-- A JUMP_IF refusal that carries the next regular number (R165, R201). -/
def refuseJump (st : Status) (s : State) : Answer := (s, st.byte :: s.nextMark)

/-- JUMP_IF after its state and stream tests (R165 steps 3 to 6). -/
def jumpFrom (cur : Num) (pl : List Byte) (s : State) : Answer :=
  match s.scheme.member (suppliedAt pl 1) with
  | none => refuseJump .mismatch s
  | some expected =>
    if expected.same cur then
      match s.scheme.member (suppliedAt pl 9) with
      | none => refuseJump .range s
      | some new =>
        if s.jumpFits cur new then
          if s.logFree = 0 then refuseJump .logFull s
          else okWith (makeJump cur new s).nextMark (makeJump cur new s)
        else refuseJump .range s
    else refuseJump .mismatch s

/-- JUMP_IF (R165). -/
def answerJumpIf (pl : List Byte) (s : State) : Answer :=
  if (s.jobState ≠ .running ∧ s.jobState ≠ .hold) ∨ s.scheme.mode = .split then refuse .state s
  else if u8 pl 0 ≠ 1 then refuseJump .range s
  else
    match s.acct.header.marks.head?.map StreamMarks.alloc with
    | some (.item cur) => jumpFrom cur pl s
    | some .atEnd => refuseJump .mismatch s
    | none => refuseJump .mismatch s

/-- RECOVER carried out, with its reply (R177, R201). -/
def answerRecovered (remake : Bool) (s : State) : Answer :=
  let s1 := recoverJob remake s
  okWith
    (be32 (s1.logFill - s.logFill)
      ++ [byte (if remake then s.entryCount .doubt else 0), byte (s1.acct.nextEntry - s.acct.nextEntry)]
      ++ be16 s1.pendingVoids) s1

/-- RECOVER (R175). -/
def answerRecover (pl : List Byte) (s : State) : Answer :=
  if s.jobState = .recovery then
    match u8 pl 0 with
    | 0 => answerRecovered false s
    | 1 => if s.policy.cullPolicy = .void then refuseConflict 0 s else answerRecovered true s
    | _ => refuse .range s
  else refuse .state s

/-- STOP_CLEAR (R167). -/
def answerStopClear (pl : List Byte) (s : State) : Answer :=
  match StopSet.ofPayload pl with
  | none => refuse .range s
  | some named =>
    let s1 := clearStops named s
    let still := stayed named s1.control.stops
    (s1, (if still.any then Status.causePersists.byte else Status.ok.byte)
      :: (s1.control.stops.bytes ++ still.bytes))

/-! ### Set table -/

/-- Frontier and fill, which every ROW_READ reply carries (R59). -/
def State.tableFields (s : State) : List Byte := be40 s.table.frontier ++ be16 s.table.fill

/-- ROW_READ (R59). -/
def answerRowRead (pl : List Byte) (s : State) : Answer :=
  let i := u32 pl 0
  match s.table.recordAt i with
  | some r => okWith (s.tableFields ++ r.view) s
  | none =>
    match s.lookup i with
    | .pending _ _ =>
      match s.rowAt i with
      | some w => okWith (s.tableFields ++ w.view i) s
      | none => (s, Status.notFound.byte :: s.tableFields)
    | .opened _ => (s, Status.notFound.byte :: s.tableFields)
    | .retired _ => (s, Status.notFound.byte :: s.tableFields)
    | .none => (s, Status.notFound.byte :: s.tableFields)

/-- What CULL has found so far: sets marked, the first too-late index, sets not found (R61). -/
structure CullCount where
  marked   : Nat
  late     : Option Nat
  notFound : Nat
  deriving DecidableEq, Repr

/-- One addressed set classified and, if Open, marked (R61). -/
def cullOne (i : Nat) (x : State × CullCount) : State × CullCount :=
  if x.1.table.frontier ≤ i then (x.1, { x.2 with notFound := x.2.notFound + 1 })
  else
    match x.1.lookup i with
    | .opened _ => (markHostCull i x.1, { x.2 with marked := x.2.marked + 1 })
    | .pending _ _ => (x.1, { x.2 with late := some (x.2.late.getD i) })
    | .retired _ => (x.1, { x.2 with late := some (x.2.late.getD i) })
    | .none => (x.1, { x.2 with notFound := x.2.notFound + 1 })

/-- CULL's reply (R61, R201). -/
def cullAnswer (x : State × CullCount) : Answer :=
  (x.1,
    (if 1 ≤ x.2.marked then Status.ok.byte
      else if x.2.late.isSome then Status.tooLate.byte else Status.notFound.byte)
      :: (be16 x.2.marked ++ [flagByte x.2.late.isSome] ++ be32 (x.2.late.getD 0) ++ be16 x.2.notFound))

/-- The range form of CULL (R60, R61). -/
def cullRange (first count : Nat) (s : State) : Answer :=
  if count = 0 ∨ 256 < count ∨ Config.countTop < first + count - 1 then refuse .range s
  else
    cullAnswer (((List.range count).map (first + ·)).foldl (fun x i => cullOne i x) (s, ⟨0, none, 0⟩))

/-- The numbers of a set carry a number on a lane (R60). -/
def Scheme.carries (c : Scheme) (ns : List Num) (n : Num) (lane : Nat) : Bool :=
  match c.laneNumber ns lane with
  | some x => x.same n
  | none => false

/-- An index inserted into a rising list of indices, once. -/
def insertOnce (i : Nat) (js : List Nat) : List Nat := if i ∈ js then js else insertIndex i js

/-- The indices of the records, rows and traces that carry a number on a lane, in increasing order (R61). -/
def State.carriers (s : State) (n : Num) (lane : Nat) : List Nat :=
  let c := s.scheme
  let rs := (s.table.records.filter fun r => c.carries r.numbers n lane).map (·.index)
  let ts := (s.table.traces.filter fun t => c.carries t.numbers n lane).map (·.index)
  let ws := (s.acct.rows.filter fun w => c.carries (w.numbers.map (·.1)) n lane).filterMap (·.setIndex)
  (rs ++ ts ++ ws).foldr insertOnce []

/-- The number form of CULL (R60, R61). -/
def cullNumber (x : Supplied) (lane : Nat) (s : State) : Answer :=
  if lane = 0 ∨ s.scheme.lanes < lane then refuse .range s
  else
    match s.scheme.member x with
    | none => cullAnswer (s, ⟨0, none, 1⟩)
    | some n =>
      match s.carriers n lane with
      | [] => cullAnswer (s, ⟨0, none, 1⟩)
      | i :: is => cullAnswer ((i :: is).foldl (fun x i => cullOne i x) (s, ⟨0, none, 0⟩))

/-- CULL (R60, R61). -/
def answerCull (pl : List Byte) (s : State) : Answer :=
  if s.jobState.inRun then
    if u8 pl 0 = 0 then cullRange (u32 pl 1) (u16 pl 5) s else cullNumber (suppliedAt pl 1) (u8 pl 9) s
  else refuse .state s

/-! ### Resumes -/

/-- HEAD_RESUME (R82). -/
def answerHeadResume (pl : List Byte) (s : State) : Answer :=
  match Ply.ofNumber (u8 pl 0) with
  | none => refuse .range s
  | some p =>
    if (s.heads.get p).state = .faulted ∧ s.jobState.inRun then
      let s1 := resumeHead p s
      okWith (byte (s1.heads.get p).state.code :: beSigned40 (s1.tracker.heads.get p).nextIndex) s1
    else refuse .state s

/-- READER_RESUME (R102). -/
def answerReaderResume (s : State) : Answer :=
  if s.jobState.inRun ∧ s.reader.state.suspended then
    okWith (beSigned40 (resumeReader s).tracker.reader.nextIndex) (resumeReader s)
  else refuse .state s

/-- GATE_RESUME (R116). -/
def answerGateResume (s : State) : Answer :=
  if s.jobState.inRun ∧ s.tracker.gate.state = .skewed then
    okWith (beSigned40 (resumeGate s).tracker.gate.nextIndex) (resumeGate s)
  else refuse .state s

/-! ### Manifests -/

/-- The reply of MANIFEST_READ for the returned manifests and entries (R126, R199). -/
def manifestFields (fill start : Nat) (ms : List Manifest) : List Byte :=
  let es := ((ms.head?.map Manifest.exceptions).getD []).drop start |>.take 4
  [byte fill, byte ms.length] ++ be32 ((ms.head?.map Manifest.jobId).getD 0)
    ++ (ms.map Manifest.headerBytes).flatten ++ [byte es.length] ++ (es.map BundleException.bytes).flatten

/-- MANIFEST_READ (R126). -/
def answerManifestRead (pl : List Byte) (s : State) : Answer :=
  if 1 ≤ u8 pl 0 ∧ u8 pl 0 ≤ 2 ∧ u8 pl 1 ≤ 31 then
    okWith (manifestFields s.acct.manifests.length (u8 pl 1) (s.acct.manifests.take (u8 pl 0))) s
  else refuse .range s

/-- A pending FINAL or ABORTED close completed by the MANIFEST_FREE that makes room (R122, R127). -/
def completeLastClose (s : State) : State :=
  match s.acct.bundle with
  | none => s
  | some b =>
    match b.closePending with
    | some .final => endWrite (completeClose b .final s)
    | some .aborted => endWrite (completeClose b .aborted s)
    | some .size => s
    | some .exceptions => s
    | none => s

/-- The oldest manifests freed (R127). -/
def freeManifests (n : Nat) (s : State) : State :=
  let s1 := endWrite (s.mapAcct fun a => { a with manifests := a.manifests.drop n })
  if s1.manifestsFull then completionCheck s1
  else
    let s2 := reportFull false (completeLastClose (withdrawHold .manifest s1))
    reportFull s2.manifestsFull (completionCheck s2)

/-- MANIFEST_FREE (R127). -/
def answerManifestFree (pl : List Byte) (s : State) : Answer :=
  if 1 ≤ u8 pl 0 ∧ u8 pl 0 ≤ 8 ∧ u8 pl 0 ≤ s.acct.manifests.length then
    let s1 := freeManifests (u8 pl 0) s
    okWith [byte s1.acct.manifests.length] s1
  else refuse .range s

/-! ### Accounting -/

/-- LOG_READ (R135). -/
def answerLogRead (pl : List Byte) (s : State) : Answer :=
  if u16 pl 0 ≤ 1023 ∧ 1 ≤ u8 pl 2 ∧ u8 pl 2 ≤ 8 then
    let rs := (s.acct.log.records.drop (u16 pl 0)).take (u8 pl 2)
    okWith
      (be16 s.logFill ++ be32 s.acct.log.freed ++ [flagByte s.acct.log.low, byte rs.length]
        ++ (rs.map VoidRecord.bytes).flatten) s
  else refuse .range s

/-- The low flag evaluated after a flush: cleared where the free space is 128 or more, LOG withdrawn (R134, R136). -/
def settleLow (s : State) : State :=
  if s.acct.log.low && !fillLow s.logFill then
    endWrite (withdrawHold .log (s.mapAcct fun a => { a with log := { a.log with low := false } }))
  else s

/-- The oldest void records freed, in the order of R136. -/
def freeLog (n : Nat) (s : State) : State :=
  let s1 := s.mapAcct fun a =>
    { a with log := { a.log with records := a.log.records.drop n, freed := a.log.freed + n } }
  let s2 := settleLow (flush (endWrite s1))
  reportFull s2.manifestsFull (completionCheck s2)

/-- LOG_FREE (R136). -/
def answerLogFree (pl : List Byte) (s : State) : Answer :=
  if 1 ≤ u16 pl 0 ∧ u16 pl 0 ≤ 1024 ∧ u16 pl 0 ≤ s.logFill then
    let s1 := freeLog (u16 pl 0) s
    okWith (be16 s1.logFill ++ be32 s1.acct.log.freed ++ [flagByte s1.acct.log.low] ++ be16 s1.pendingVoids) s1
  else refuse .range s

/-- The entries in each state, in the order of Table 89. -/
def State.entryCounts (s : State) : List Byte :=
  [byte (s.entryCount .waiting), byte (s.entryCount .inFlight), byte (s.entryCount .doubt),
   byte (s.entryCount .voidPending)]

/-- REMAKE_READ (R142). R142 carries the attempt limit of the committed job and accepts the request in IDLE too, where
no job is committed: that the limit of the definition as held is shown there is the model's choice (DESIGN CHOICE, log
entry 32). -/
def answerRemakeRead (pl : List Byte) (s : State) : Answer :=
  if u8 pl 0 ≤ 63 ∧ 1 ≤ u8 pl 1 ∧ u8 pl 1 ≤ 6 then
    let es := (s.acct.register.drop (u8 pl 0)).take (u8 pl 1)
    okWith
      ([byte s.acct.register.length] ++ s.entryCounts ++ [byte s.policy.attemptLimit, byte es.length]
        ++ (es.map RemakeEntry.bytes).flatten) s
  else refuse .range s

/-- The eleven counters in the order of Table 58. -/
def Counters.toList (c : Counters) : List Counter :=
  [c.issued, c.excluded, c.jumped, c.delivered, c.voided, c.suspect, c.setsRegular, c.setsRemake, c.setsDelivered,
   c.setsCulled, c.setsWaste]

/-- The saturated indications of COUNTS (R201). -/
def Counters.saturatedBytes (c : Counters) : List Byte :=
  [byte (bitsByte ((c.toList.take 8).map Counter.saturated)),
   byte (bitsByte ((c.toList.drop 8).map Counter.saturated))]

/-- How many streams COUNTS gives: those with marks, or those of a LOADED job's definition, or none. -/
def State.streamsShown (s : State) : Nat :=
  if s.acct.header.marks.isEmpty then (if s.jobState = .loaded then s.scheme.streamCount else 0)
  else s.acct.header.marks.length

/-- A stream place of COUNTS (R146, R201). -/
def State.streamPlace (s : State) (k : Nat) : List Byte :=
  markField (s.acct.header.marks[k]?.map StreamMarks.alloc)
    ++ markField (s.acct.header.marks[k]?.map StreamMarks.retired) ++ numFieldOr s.acct.laneStarts[k]?

/-- The remaining quantity of COUNTS, none outside a committed job (R146). -/
def State.remainingField (s : State) : List Byte :=
  if s.jobState = .idle then be32 4294967295 else be32 s.remaining

/-- The fields of the COUNTS reply (R146, R201). -/
def State.countsFields (s : State) : List Byte :=
  be32 s.acct.header.jobId ++ [s.jobByte]
    ++ (s.acct.counters.toList.map fun c => be32 c.value).flatten ++ s.acct.counters.saturatedBytes
    ++ s.remainingField ++ [byte s.streamsShown] ++ s.streamPlace 0 ++ s.streamPlace 1 ++ s.streamPlace 2
    ++ be16 s.logFill ++ be32 s.acct.log.freed ++ [flagByte s.acct.log.low, byte s.acct.register.length]
    ++ s.entryCounts
    ++ be16 (s.acct.rows.filter fun r => r.setIndex.isSome).length
    ++ be16 (s.acct.rows.filter fun r => r.setIndex.isNone).length ++ be32 s.acct.nextEntry

/-- COUNTS (R146). -/
def answerCounts (s : State) : Answer := okWith s.countsFields s

/-! ### The owner of a request -/

/-- The owner's answer to a request (Table 78). -/
def answer (k : RequestKind) (pl : List Byte) (s : State) : Answer :=
  match k with
  | .ident => answerIdent s
  | .status => answerStatus s
  | .reset => answerReset s
  | .setLines => answerSetLines pl s
  | .setGeometry => answerSetGeometry pl s
  | .setScheme => answerSetScheme pl s
  | .setFormat => answerSetFormat pl s
  | .setPolicy => answerSetPolicy pl s
  | .commit => answerCommit s
  | .start => answerStart s
  | .hold => answerHold s
  | .release => answerRelease s
  | .abort => answerAbort s
  | .close => answerClose s
  | .jumpIf => answerJumpIf pl s
  | .recover => answerRecover pl s
  | .stopClear => answerStopClear pl s
  | .rowRead => answerRowRead pl s
  | .cull => answerCull pl s
  | .headResume => answerHeadResume pl s
  | .readerResume => answerReaderResume s
  | .gateResume => answerGateResume s
  | .manifestRead => answerManifestRead pl s
  | .manifestFree => answerManifestFree pl s
  | .logRead => answerLogRead pl s
  | .logFree => answerLogFree pl s
  | .remakeRead => answerRemakeRead pl s
  | .counts => answerCounts s

end Sys2Proof.Machine
end

