-- ==== Sys2Proof/Machine/Link.lean ====
section
/-! DEFINITION. The control link, the head links and the reader port as lines: arrival of frames, taking requests, the
transmitter, breaks and gaps (R181 to R191). -/

namespace Sys2Proof.Machine
open Sys2Proof

/-! ### Taking requests -/

/-- The reply payload of a request, with the state its taking leaves: the tests of R186 in their order, then the
owner. -/
def takeRequest (f : CtlFrame) (s : State) : Answer :=
  match RequestKind.ofByte f.kind with
  | none => refuse .unknownKind s
  | some k =>
    if !formatOk k f.payload then refuse .format s
    else if supervisorOnly k && !s.key then refuse .privilege s
    else answer k f.payload s

/-- The reply frame of a request (R187). -/
def replyFrame (f : CtlFrame) (payload : List Byte) : CtlFrame := ⟨replyKind f.kind, f.tag, payload⟩

/-- The reply of the request last taken is still to be sent in full (R186). -/
def Link.outstanding (l : Link) : Bool :=
  l.reply.isSome || (match l.sending with | some (.reply, _) => true | some (.busy, _) => false
                                          | some (.report, _) => false | none => false)

/-- A request taken, its reply waiting (R186, R187). -/
def takeFrame (f : CtlFrame) (s : State) : State :=
  (takeRequest f s).1.mapLink fun l => { l with reply := some (replyFrame f (takeRequest f s).2) }

/-- The oldest request taken, where the link may take one (R186). -/
def service (s : State) : State :=
  match s.link.queue with
  | [] => s
  | f :: rest => if s.link.outstanding then s else takeFrame f (s.mapLink fun l => { l with queue := rest })

/-- A good frame of the control link: it joins the queue, or is answered BUSY, or is discarded; a request is then
taken where the link may take one (R185, R186). -/
def frameArrives (f : CtlFrame) (s : State) : State :=
  if s.link.queue.length < Config.requestQueueSize then
    service (s.mapLink fun l => { l with queue := l.queue ++ [f] })
  else
    match s.link.busy with
    | none => s.mapLink fun l => { l with busy := some (replyFrame f [Status.busy.byte]) }
    | some _ => s

/-! ### The transmitter -/

/-- The report sent next, and the queue without it: the oldest ALERT, or the oldest NOTICE if there is none (R190). -/
def nextReport (rs : List Report) : Option (Report × List Report) :=
  match rs.find? fun r => r.kind.alert with
  | some r => some (r, rs.erase r)
  | none =>
    match rs with
    | [] => none
    | r :: rest => some (r, rest)

/-- The next report begins to be sent, if there is one. -/
def Link.sendReport (l : Link) : Link :=
  match nextReport l.reports with
  | some (r, rest) => { l with reports := rest, sending := some (.report, r.frame) }
  | none => l

/-- The transmitter's choice where it is free (R187). -/
def Link.choose (l : Link) : Link :=
  match l.sending with
  | some _ => l
  | none =>
    match l.busy with
    | some f => { l with busy := none, sending := some (.busy, f) }
    | none =>
      if l.lastWasReply && !l.reports.isEmpty then l.sendReport
      else
        match l.reply with
        | some f => { l with reply := none, sending := some (.reply, f) }
        | none => l.sendReport

/-- The transmitter looks for a frame to send. -/
def transmit (s : State) : State := s.mapLink Link.choose

/-! ### Ends of frames, breaks -/

/-- The part's own reset, at the straps' present levels (R171). -/
def requestReset (s : State) : State := resetPart .request s.part.straps s

/-- The end of the frame being sent on CTX: the transmitter is free; after RESET's reply the part is reset; otherwise
the next request is taken where the link may take one (R171, R186, R187). -/
def controlSent (s : State) : State :=
  match s.link.sending with
  | none => s
  | some (src, _) =>
    let s1 := s.mapLink fun l => { l with sending := none, lastWasReply := decide (src ≠ .report) }
    if src = .reply ∧ s.link.resetAwaiting then requestReset s1 else service s1

/-- The end of the frame being sent on a head link (R69). -/
def headSent (p : Ply) (s : State) : State := { s with headTx := s.headTx.set p (s.headTx.get p).tail }

/-- FRAME_SENT on a link; nothing is sent on the reader port (R89). -/
def frameSentOn (l : LinkId) (s : State) : State :=
  match l with
  | .control => controlSent s
  | .head p => headSent p s
  | .reader => s

/-- The link after a break (R184, Table 77). -/
def Link.broken (l : Link) : Link :=
  { l with
    queue := [], reply := none, busy := none, sending := none, reports := []
    reportsLost := l.reportsLost || !l.reports.isEmpty, resetAwaiting := false }

/-- A link break; where RESET's reply was still to be sent in full, the reset of the part is taken at once (R184). -/
def takeBreak (s : State) : State :=
  let s1 := { s.mapLink Link.broken with rxControl := .awaitMark }
  if s.link.resetAwaiting && s.link.outstanding then requestReset s1 else s1

/-- The line is back at mark (R184). -/
def markReturns (s : State) : State :=
  match s.rxControl with
  | .awaitMark => { s with rxControl := .hunting }
  | .hunting => s
  | .inFrame _ _ => s

/-! ### Receiving bytes -/

/-- A good frame's body as a control-link frame (R181). -/
def controlBody (body : List Byte) (s : State) : State :=
  match body with
  | k :: t :: pl => frameArrives ⟨k, t, pl⟩ s
  | [_] => s
  | [] => s

/-- One byte on the control link (R182). -/
def controlByte (b : Byte) (s : State) : State :=
  let x := receiveByte (lengthRange .control) s.rxControl b
  match x.2 with
  | some body => controlBody body { s with rxControl := x.1 }
  | none => { s with rxControl := x.1 }

/-- A good frame's body on head link p. -/
def headBody (p : Ply) (body : List Byte) (s : State) : State :=
  match body with
  | k :: pl => headMessage p k pl s
  | [] => s

/-- One byte on head link p; an UNFITTED channel discards it (R68, R182). -/
def headByte (p : Ply) (b : Byte) (s : State) : State :=
  if (s.heads.get p).state = .unfitted then s
  else
    let x := receiveByte (lengthRange (.head p)) (s.rxHead.get p) b
    match x.2 with
    | some body => headBody p body { s with rxHead := s.rxHead.set p x.1 }
    | none => { s with rxHead := s.rxHead.set p x.1 }

/-- A good frame's body on the reader port. -/
def readerBody (body : List Byte) (s : State) : State :=
  match body with
  | k :: pl => readerMessage k pl s
  | [] => s

/-- One byte on the reader port (R89, R182). -/
def readerByte (b : Byte) (s : State) : State :=
  let x := receiveByte (lengthRange .reader) s.rxReader b
  match x.2 with
  | some body => readerBody body { s with rxReader := x.1 }
  | none => { s with rxReader := x.1 }

/-- Bytes on a link, in turn. -/
def receive (l : LinkId) (bs : List Byte) (s : State) : State :=
  match l with
  | .control => bs.foldl (fun s b => controlByte b s) s
  | .head p => bs.foldl (fun s b => headByte p b s) s
  | .reader => bs.foldl (fun s b => readerByte b s) s

/-- A frame in progress on a link is discarded (R183). -/
def dropFrameOn (l : LinkId) (s : State) : State :=
  match l with
  | .control => { s with rxControl := s.rxControl.dropFrame }
  | .head p => { s with rxHead := s.rxHead.set p (s.rxHead.get p).dropFrame }
  | .reader => { s with rxReader := s.rxReader.dropFrame }

/-! ### Whole frames -/

/-- A good frame arrives whole on the control link; while the link waits for the mark level it is lost (R184). -/
def controlFrameWhole (f : CtlFrame) (s : State) : State :=
  match s.rxControl with
  | .awaitMark => s
  | .hunting => frameArrives f s
  | .inFrame _ _ => frameArrives f { s with rxControl := .hunting }

/-- A good frame arrives whole on head link p. -/
def headFrameWhole (p : Ply) (kind : Byte) (pl : List Byte) (s : State) : State :=
  headMessage p kind pl { s with rxHead := s.rxHead.set p .hunting }

/-- A good frame arrives whole on the reader port. -/
def readerFrameWhole (kind : Byte) (pl : List Byte) (s : State) : State :=
  readerMessage kind pl { s with rxReader := .hunting }

end Sys2Proof.Machine
end

