-- ==== Sys2Proof/Machine/Events.lean ====
section
/-! DEFINITION. How an event is taken: the part's readiness, the journal, the transmitter, and one ms of its clocks
(R12, R124, R170, R171, R183, R187). -/

namespace Sys2Proof.Machine
open Sys2Proof

/-- What a command's meaning answers. -/
abbrev Result := Host.Outcome State Fault Refusal

/-- The part takes events: it has power and RSTn is inactive (R171). -/
def State.live (s : State) : Bool := s.part.powered && !s.part.rstn

/-- An event taken by a live part: its effect, then the transmitter looks for a frame to send (R187). A part without
power, or held in reset, takes no event (R171). -/
def taken (f : State → State) (s : State) : State := if s.live then transmit (f (openJournal s)) else s

/-- The meaning of an event of a live part. -/
def onEvent (f : State → State) (s : State) : Result := .next (taken f s)

/-- The meaning of a request command: a good frame of its kind arrives (log entry 2). -/
def onRequest (k : RequestKind) (tag : Byte) (pl : List Byte) (s : State) : Result :=
  onEvent (controlFrameWhole ⟨k.code, tag, pl⟩) s

/-- The meaning of an event of the supply or the reset line: it is taken whatever the part does, and the transmitter
of a part that is then live looks for a frame to send. -/
def onPart (f : State → State) (s : State) : Result :=
  .next (if (f s).live then transmit (f s) else f s)

/-! ### One ms (log entry 6) -/

/-- One ms of the jog one-shot (R124). -/
def tickJog (s : State) : State :=
  match s.gate.jog with
  | some n => s.mapGate fun g => { g with jog := if n ≤ 1 then none else some (n - 1) }
  | none => s

/-- One ms of the receivers' gap timers (R183). -/
def tickReceivers (s : State) : State :=
  { s with
    rxControl := s.rxControl.tick
    rxHead := PerPly.ofFn fun p => (s.rxHead.get p).tick
    rxReader := s.rxReader.tick }

/-- One ms of the part's clocks: debounce timing line by line, the jog one-shot, the gap timers. -/
def tick (s : State) : State := tickReceivers (tickJog (LineId.all.foldl (fun t l => tickLine l t) s))

end Sys2Proof.Machine
end

