-- ==== Sys2Proof/Machine/AccountRequests.lean ====
section
/-! DEFINITION. The meanings of the accounting requests (R135, R136, R142, R146). -/

namespace Sys2Proof.Machine
open Sys2Proof

/-- LOG_READ (R135). -/
def execLogRead (tag : Byte) (payload : List Byte) (s : State) : Result := onRequest .logRead tag payload s

/-- LOG_FREE (R136). -/
def execLogFree (tag : Byte) (payload : List Byte) (s : State) : Result := onRequest .logFree tag payload s

/-- REMAKE_READ (R142). -/
def execRemakeRead (tag : Byte) (payload : List Byte) (s : State) : Result := onRequest .remakeRead tag payload s

/-- COUNTS (R146). -/
def execCounts (tag : Byte) (payload : List Byte) (s : State) : Result := onRequest .counts tag payload s

end Sys2Proof.Machine
end

