-- ==== Sys2Proof/Machine/JobRequests.lean ====
section
/-! DEFINITION. The meanings of the job controller's requests (R149 to R167, R175). -/

namespace Sys2Proof.Machine
open Sys2Proof

/-- SET_GEOMETRY (R151). -/
def execSetGeometry (tag : Byte) (payload : List Byte) (s : State) : Result := onRequest .setGeometry tag payload s

/-- SET_SCHEME (R18). -/
def execSetScheme (tag : Byte) (payload : List Byte) (s : State) : Result := onRequest .setScheme tag payload s

/-- SET_FORMAT (R38). -/
def execSetFormat (tag : Byte) (payload : List Byte) (s : State) : Result := onRequest .setFormat tag payload s

/-- SET_POLICY (R152). -/
def execSetPolicy (tag : Byte) (payload : List Byte) (s : State) : Result := onRequest .setPolicy tag payload s

/-- COMMIT (R154). -/
def execCommit (tag : Byte) (payload : List Byte) (s : State) : Result := onRequest .commit tag payload s

/-- START (R156). -/
def execStart (tag : Byte) (payload : List Byte) (s : State) : Result := onRequest .start tag payload s

/-- HOLD (R158). -/
def execHold (tag : Byte) (payload : List Byte) (s : State) : Result := onRequest .hold tag payload s

/-- RELEASE (R159). -/
def execRelease (tag : Byte) (payload : List Byte) (s : State) : Result := onRequest .release tag payload s

/-- ABORT (R162). -/
def execAbort (tag : Byte) (payload : List Byte) (s : State) : Result := onRequest .abort tag payload s

/-- CLOSE (R164). -/
def execClose (tag : Byte) (payload : List Byte) (s : State) : Result := onRequest .close tag payload s

/-- JUMP_IF (R165). -/
def execJumpIf (tag : Byte) (payload : List Byte) (s : State) : Result := onRequest .jumpIf tag payload s

/-- RECOVER (R175). -/
def execRecover (tag : Byte) (payload : List Byte) (s : State) : Result := onRequest .recover tag payload s

/-- STOP_CLEAR (R167). -/
def execStopClear (tag : Byte) (payload : List Byte) (s : State) : Result := onRequest .stopClear tag payload s

end Sys2Proof.Machine
end

