-- ==== Sys2Proof/Machine/LinkEvents.lean ====
section
/-! DEFINITION. The meanings of the events of the serial links (R182 to R187). -/

namespace Sys2Proof.Machine
open Sys2Proof

/-- UNKNOWN_KIND: a good frame whose kind names no request arrives (R186). -/
def execUnknownKind (kind tag : Byte) (payload : List Byte) (s : State) : Result :=
  onEvent (controlFrameWhole ⟨kind, tag, payload⟩) s

/-- CONTROL_FRAME: the bytes of a frame arrive on the control link (R182, R185). -/
def execControlFrame (bytes : List Byte) (s : State) : Result := onEvent (receive .control bytes) s

/-- INTER_BYTE_GAP: bytes arrive on a link and a gap over 20 ms follows them (R183). -/
def execInterByteGap (link : LinkId) (received : List Byte) (s : State) : Result :=
  onEvent (fun t => dropFrameOn link (receive link received t)) s

/-- LINK_BREAK: the control receive line has been at space for 10 ms (R184). -/
def execLinkBreak (s : State) : Result := onEvent takeBreak s

/-- FRAME_SENT: the frame being sent has been sent whole (R69, R171, R186, R187). -/
def execFrameSent (link : LinkId) (s : State) : Result := onEvent (frameSentOn link) s

/-- FRAMING_ERROR: bytes arrive on a link and a byte whose stop bit is at space follows them (R183). -/
def execFramingError (link : LinkId) (received : List Byte) (s : State) : Result :=
  onEvent (fun t => dropFrameOn link (receive link received t)) s

/-- RETURN_TO_MARK: the control receive line returns to mark (R184). -/
def execReturnToMark (s : State) : Result := onEvent markReturns s

end Sys2Proof.Machine
end

