-- ==== Sys2Proof/Machine/LinkRequests.lean ====
section
/-! DEFINITION. The meanings of the requests the control link and the line unit own (R15, R171, R192, R193). -/

namespace Sys2Proof.Machine
open Sys2Proof

/-- IDENT (R192). -/
def execIdent (tag : Byte) (payload : List Byte) (s : State) : Result := onRequest .ident tag payload s

/-- STATUS (R193). -/
def execStatus (tag : Byte) (payload : List Byte) (s : State) : Result := onRequest .status tag payload s

/-- RESET (R171). -/
def execReset (tag : Byte) (payload : List Byte) (s : State) : Result := onRequest .reset tag payload s

/-- SET_LINES (R15). -/
def execSetLines (tag : Byte) (payload : List Byte) (s : State) : Result := onRequest .setLines tag payload s

end Sys2Proof.Machine
end

