-- ==== Sys2Proof/Machine/PartEvents.lean ====
section
/-! DEFINITION. The meanings of the supply, reset-line, line-input and jog events (R12, R124, R171). -/

namespace Sys2Proof.Machine
open Sys2Proof

/-- POWER_ON: the supply rises into range (R171, R172). -/
def execPowerOn (straps : Straps) (s : State) : Result := onPart (fun t => powerOn straps (openJournal t)) s

/-- POWER_FAIL: the supply falls out of range (R170, R171). -/
def execPowerFail (lost : Nat) (s : State) : Result := .next (powerFail lost s)

/-- RSTN_ACTIVE: RSTn becomes active (R170, R171). -/
def execRstnActive (lost : Nat) (s : State) : Result := .next (rstnFall lost s)

/-- RSTN_RELEASE: RSTn returns inactive (R171, R172). -/
def execRstnRelease (straps : Straps) (s : State) : Result := onPart (rstnRise straps) s

/-- LINE_INPUT_CHANGE: the level of a line input or a strap pin changes; a part that takes no event keeps the new
level alone (R12, R171, R180; log entry 11). -/
def execLineInputChange (pin : InputPin) (high : Bool) (s : State) : Result :=
  .next (if s.live then taken (pinInput pin high) s else setPin pin high s)

/-- DEBOUNCE_EXPIRED: a pending change has held for its interval (R12). -/
def execDebounceExpired (line : LineId) (s : State) : Result := onEvent (debounceExpired line) s

/-- JOG_END: the jog width has passed (R124). -/
def execJogEnd (s : State) : Result := onEvent endJog s

end Sys2Proof.Machine
end

