-- ==== Sys2Proof/Machine/PressEvents.lean ====
section
/-! DEFINITION. The meanings of cues and of the messages of the heads and the reader (R46, R68, R73, R76 to R78, R86,
R89, R91 to R93, R105). -/

namespace Sys2Proof.Machine
open Sys2Proof

/-- HEAD_CUE: a cue at head station p (R46). -/
def execHeadCue (p : Ply) (s : State) : Result := onEvent (headCue p) s

/-- LOAD_TIMEOUT: the timeout step of head channel p (R73, R75; log entry 7). -/
def execLoadTimeout (p : Ply) (s : State) : Result := onEvent (timeoutStep p) s

/-- MARRIAGE_CUE: a cue at the marriage station (R86). -/
def execMarriageCue (s : State) : Result := onEvent marriageCue s

/-- READER_CUE: a cue at the reader station (R91). -/
def execReaderCue (s : State) : Result := onEvent readerCue s

/-- GATE_CUE: a cue at the gate station (R105). -/
def execGateCue (s : State) : Result := onEvent gateCue s

/-- DONE: a head's completion message (R76, R77). -/
def execDone (p : Ply) (tag outcome : Byte) (s : State) : Result :=
  onEvent (headFrameWhole p 0xC1#8 [tag, outcome]) s

/-- HEADFAULT: a head's fault message (R78). -/
def execHeadfault (p : Ply) (code : Byte) (s : State) : Result := onEvent (headFrameWhole p 0xC2#8 [code]) s

/-- HEAD_MALFORMED_MESSAGE: any other message of a head link (R68). -/
def execHeadMalformedMessage (p : Ply) (kind : Byte) (payload : List Byte) (s : State) : Result :=
  onEvent (headFrameWhole p kind payload) s

/-- RESULT: a result message of the reader (R93). -/
def execResult (payload : List Byte) (s : State) : Result := onEvent (readerFrameWhole 0xD1#8 payload) s

/-- READERFAULT: a fault message of the reader (R92). -/
def execReaderfault (code : Byte) (s : State) : Result := onEvent (readerFrameWhole 0xD2#8 [code]) s

/-- READER_MALFORMED_MESSAGE: any other message of the reader port (R89). -/
def execReaderMalformedMessage (kind : Byte) (payload : List Byte) (s : State) : Result :=
  onEvent (readerFrameWhole kind payload) s

end Sys2Proof.Machine
end

