-- ==== Sys2Proof/Machine/PressRequests.lean ====
section
/-! DEFINITION. The meanings of the requests of the set table, the head channels, the verification unit and the gate unit (R59 to R61, R82, R102, R116, R126, R127). -/

namespace Sys2Proof.Machine
open Sys2Proof

/-- ROW_READ (R59). -/
def execRowRead (tag : Byte) (payload : List Byte) (s : State) : Result := onRequest .rowRead tag payload s

/-- CULL (R61). -/
def execCull (tag : Byte) (payload : List Byte) (s : State) : Result := onRequest .cull tag payload s

/-- HEAD_RESUME (R82). -/
def execHeadResume (tag : Byte) (payload : List Byte) (s : State) : Result := onRequest .headResume tag payload s

/-- READER_RESUME (R102). -/
def execReaderResume (tag : Byte) (payload : List Byte) (s : State) : Result := onRequest .readerResume tag payload s

/-- GATE_RESUME (R116). -/
def execGateResume (tag : Byte) (payload : List Byte) (s : State) : Result := onRequest .gateResume tag payload s

/-- MANIFEST_READ (R126). -/
def execManifestRead (tag : Byte) (payload : List Byte) (s : State) : Result := onRequest .manifestRead tag payload s

/-- MANIFEST_FREE (R127). -/
def execManifestFree (tag : Byte) (payload : List Byte) (s : State) : Result := onRequest .manifestFree tag payload s

end Sys2Proof.Machine
end

