-- ==== Sys2Proof/Machine/Dispatch.lean ====
section
/-! DEFINITION. One arm per command. -/

namespace Sys2Proof.Machine
open Sys2Proof

/-- The effect of a command on everything but the queue. -/
def exec (i : Instr) (s : State) : Host.Outcome State Fault Refusal :=
  match i with
  | .ident tag payload => Sys2Proof.Machine.execIdent tag payload s
  | .status tag payload => Sys2Proof.Machine.execStatus tag payload s
  | .reset tag payload => Sys2Proof.Machine.execReset tag payload s
  | .setLines tag payload => Sys2Proof.Machine.execSetLines tag payload s
  | .setGeometry tag payload => Sys2Proof.Machine.execSetGeometry tag payload s
  | .setScheme tag payload => Sys2Proof.Machine.execSetScheme tag payload s
  | .setFormat tag payload => Sys2Proof.Machine.execSetFormat tag payload s
  | .setPolicy tag payload => Sys2Proof.Machine.execSetPolicy tag payload s
  | .commit tag payload => Sys2Proof.Machine.execCommit tag payload s
  | .start tag payload => Sys2Proof.Machine.execStart tag payload s
  | .hold tag payload => Sys2Proof.Machine.execHold tag payload s
  | .release tag payload => Sys2Proof.Machine.execRelease tag payload s
  | .abort tag payload => Sys2Proof.Machine.execAbort tag payload s
  | .close tag payload => Sys2Proof.Machine.execClose tag payload s
  | .jumpIf tag payload => Sys2Proof.Machine.execJumpIf tag payload s
  | .recover tag payload => Sys2Proof.Machine.execRecover tag payload s
  | .stopClear tag payload => Sys2Proof.Machine.execStopClear tag payload s
  | .rowRead tag payload => Sys2Proof.Machine.execRowRead tag payload s
  | .cull tag payload => Sys2Proof.Machine.execCull tag payload s
  | .headResume tag payload => Sys2Proof.Machine.execHeadResume tag payload s
  | .readerResume tag payload => Sys2Proof.Machine.execReaderResume tag payload s
  | .gateResume tag payload => Sys2Proof.Machine.execGateResume tag payload s
  | .manifestRead tag payload => Sys2Proof.Machine.execManifestRead tag payload s
  | .manifestFree tag payload => Sys2Proof.Machine.execManifestFree tag payload s
  | .logRead tag payload => Sys2Proof.Machine.execLogRead tag payload s
  | .logFree tag payload => Sys2Proof.Machine.execLogFree tag payload s
  | .remakeRead tag payload => Sys2Proof.Machine.execRemakeRead tag payload s
  | .counts tag payload => Sys2Proof.Machine.execCounts tag payload s
  | .unknownKind kind tag payload => Sys2Proof.Machine.execUnknownKind kind tag payload s
  | .controlFrame bytes => Sys2Proof.Machine.execControlFrame bytes s
  | .interByteGap link received => Sys2Proof.Machine.execInterByteGap link received s
  | .linkBreak => Sys2Proof.Machine.execLinkBreak s
  | .frameSent link => Sys2Proof.Machine.execFrameSent link s
  | .powerOn straps => Sys2Proof.Machine.execPowerOn straps s
  | .powerFail lost => Sys2Proof.Machine.execPowerFail lost s
  | .rstnActive lost => Sys2Proof.Machine.execRstnActive lost s
  | .rstnRelease straps => Sys2Proof.Machine.execRstnRelease straps s
  | .lineInputChange pin high => Sys2Proof.Machine.execLineInputChange pin high s
  | .debounceExpired line => Sys2Proof.Machine.execDebounceExpired line s
  | .headCue p => Sys2Proof.Machine.execHeadCue p s
  | .loadTimeout p => Sys2Proof.Machine.execLoadTimeout p s
  | .marriageCue => Sys2Proof.Machine.execMarriageCue s
  | .readerCue => Sys2Proof.Machine.execReaderCue s
  | .gateCue => Sys2Proof.Machine.execGateCue s
  | .jogEnd => Sys2Proof.Machine.execJogEnd s
  | .done p tag outcome => Sys2Proof.Machine.execDone p tag outcome s
  | .headfault p code => Sys2Proof.Machine.execHeadfault p code s
  | .headMalformedMessage p kind payload => Sys2Proof.Machine.execHeadMalformedMessage p kind payload s
  | .result payload => Sys2Proof.Machine.execResult payload s
  | .readerfault code => Sys2Proof.Machine.execReaderfault code s
  | .readerMalformedMessage kind payload => Sys2Proof.Machine.execReaderMalformedMessage kind payload s
  | .framingError link received => Sys2Proof.Machine.execFramingError link received s
  | .returnToMark => Sys2Proof.Machine.execReturnToMark s

end Sys2Proof.Machine
end

