-- ==== Sys2Proof/WellFormed.lean ====
section
/-! DEFINITION. Which commands are well formed: operands that an event of their name can carry. -/

namespace Sys2Proof
open Sys2Proof.Machine

/-- A payload fits a control-link frame (R181). -/
def payloadOk (pl : List Byte) : Bool := decide (pl.length ≤ 240)

/-- The bytes are those of exactly one frame of the control link: the start byte, a length, and either no more bytes,
where the length lies outside its range, or the bytes the length gives and the CRC, right or wrong (R182). -/
def wholeFrame (bytes : List Byte) : Bool :=
  match bytes with
  | [] => false
  | b :: got =>
    b == startByte && decide (2 ≤ got.length)
      && (if u16 got 0 < 2 ∨ 242 < u16 got 0 then got.length == 2 else got.length == u16 got 0 + 4)

/-- The payload has the form of a RESULT for one of the lane counts a job may have (R89, R198). -/
def resultOk (pl : List Byte) : Bool :=
  decide (1 ≤ u8 pl 0) && decide (u8 pl 0 ≤ 3) && (ReaderMessage.ofFrame (u8 pl 0) 0xD1#8 pl).isSome

/-- A message of the reader port that some state of the job makes malformed: it is no READERFAULT (R89, R198). -/
def readerMalformedOk (kind : Byte) (pl : List Byte) : Bool :=
  payloadOk pl && !(kind == 0xD2#8 && (ReaderMessage.ofFrame 1 0xD2#8 pl).isSome)

/-- The command is well formed. -/
def Instr.wellFormed : Instr → Bool
  | .ident _ pl => payloadOk pl
  | .status _ pl => payloadOk pl
  | .reset _ pl => payloadOk pl
  | .setLines _ pl => payloadOk pl
  | .setGeometry _ pl => payloadOk pl
  | .setScheme _ pl => payloadOk pl
  | .setFormat _ pl => payloadOk pl
  | .setPolicy _ pl => payloadOk pl
  | .commit _ pl => payloadOk pl
  | .start _ pl => payloadOk pl
  | .hold _ pl => payloadOk pl
  | .release _ pl => payloadOk pl
  | .abort _ pl => payloadOk pl
  | .close _ pl => payloadOk pl
  | .jumpIf _ pl => payloadOk pl
  | .recover _ pl => payloadOk pl
  | .stopClear _ pl => payloadOk pl
  | .rowRead _ pl => payloadOk pl
  | .cull _ pl => payloadOk pl
  | .headResume _ pl => payloadOk pl
  | .readerResume _ pl => payloadOk pl
  | .gateResume _ pl => payloadOk pl
  | .manifestRead _ pl => payloadOk pl
  | .manifestFree _ pl => payloadOk pl
  | .logRead _ pl => payloadOk pl
  | .logFree _ pl => payloadOk pl
  | .remakeRead _ pl => payloadOk pl
  | .counts _ pl => payloadOk pl
  | .unknownKind kind _ pl => (RequestKind.ofByte kind).isNone && payloadOk pl
  | .controlFrame bytes => wholeFrame bytes
  | .interByteGap _ _ => true
  | .linkBreak => true
  | .frameSent link => link != .reader
  | .powerOn _ => true
  | .powerFail _ => true
  | .rstnActive _ => true
  | .rstnRelease _ => true
  | .lineInputChange _ _ => true
  | .debounceExpired _ => true
  | .headCue _ => true
  | .loadTimeout _ => true
  | .marriageCue => true
  | .readerCue => true
  | .gateCue => true
  | .jogEnd => true
  | .done _ tag outcome => (HeadMessage.ofFrame 0xC1#8 [tag, outcome]).isSome
  | .headfault _ code => (HeadMessage.ofFrame 0xC2#8 [code]).isSome
  | .headMalformedMessage _ kind pl => (HeadMessage.ofFrame kind pl).isNone && payloadOk pl
  | .result pl => resultOk pl
  | .readerfault code => (ReaderMessage.ofFrame 1 0xD2#8 [code]).isSome
  | .readerMalformedMessage kind pl => readerMalformedOk kind pl
  | .framingError _ _ => true
  | .returnToMark => true

/-- The command that is the arrival of a request of a kind. -/
def Instr.ofRequest (k : RequestKind) (tag : Byte) (pl : List Byte) : Instr :=
  match k with
  | .ident => .ident tag pl
  | .status => .status tag pl
  | .reset => .reset tag pl
  | .setLines => .setLines tag pl
  | .setGeometry => .setGeometry tag pl
  | .setScheme => .setScheme tag pl
  | .setFormat => .setFormat tag pl
  | .setPolicy => .setPolicy tag pl
  | .commit => .commit tag pl
  | .start => .start tag pl
  | .hold => .hold tag pl
  | .release => .release tag pl
  | .abort => .abort tag pl
  | .close => .close tag pl
  | .jumpIf => .jumpIf tag pl
  | .recover => .recover tag pl
  | .stopClear => .stopClear tag pl
  | .rowRead => .rowRead tag pl
  | .cull => .cull tag pl
  | .headResume => .headResume tag pl
  | .readerResume => .readerResume tag pl
  | .gateResume => .gateResume tag pl
  | .manifestRead => .manifestRead tag pl
  | .manifestFree => .manifestFree tag pl
  | .logRead => .logRead tag pl
  | .logFree => .logFree tag pl
  | .remakeRead => .remakeRead tag pl
  | .counts => .counts tag pl

end Sys2Proof
end

