-- ==== Sys2Proof/Safety.lean ====
section
/-! DEFINITION. What statements about the block speak of: when the link takes a request at once, what an answer is,
what a reset leaves, and the invariants of the machine. -/

namespace Sys2Proof.Machine
open Sys2Proof

/-! ### Requests and answers -/

/-- The link of a live part takes a request at once: its queue is empty, no reply is outstanding, and it is not
waiting for the line to return to mark (R184, R186). -/
def State.ready (s : State) : Bool :=
  s.live && s.link.queue.isEmpty && !s.link.outstanding && s.rxControl != .awaitMark

/-- A frame is the reply that is being sent or is waiting to be sent. -/
def Link.Answers (l : Link) (f : CtlFrame) : Prop := l.sending = some (.reply, f) ∨ l.reply = some f

/-- The reply frame to a request of a kind (R187, Table 84). -/
def replyTo (k : RequestKind) (tag : Byte) (payload : List Byte) : CtlFrame := ⟨k.code ||| 0x80#8, tag, payload⟩

/-- The state with a reply handed to the transmitter, which sends it when R187 lets it, and the receiver hunting. -/
def State.answered (s : State) (f : CtlFrame) : State :=
  { s with link := Link.choose { s.link with reply := some f }, rxControl := .hunting }

/-- A command that answers a request and does nothing else. -/
def AnswersOnly (c : Instr) (s : State) (f : CtlFrame) : Prop := exec c s = .next ((openJournal s).answered f)

/-- A command ends in a next state in which a request has been answered. -/
def AnswersNext (c : Instr) (s : State) (f : CtlFrame) (P : State → Prop) : Prop :=
  ∃ t, exec c s = .next t ∧ t.link.Answers f ∧ t.link.queue = [] ∧ P t

/-- n bytes of a payload from an offset. -/
def fieldAt (pl : List Byte) (offset n : Nat) : List Byte := (pl.drop offset).take n

/-! ### Resets -/

/-- Every volatile block holds its value of Table 73, before any line is conditioned and any stop cause latched. -/
def State.VolatileClear (s : State) : Prop :=
  s.link = Link.afterReset s.link.rate ∧ s.rxControl = .hunting ∧ (∀ p, s.rxHead.get p = .hunting)
    ∧ s.rxReader = .hunting ∧ (∀ p, s.headTx.get p = []) ∧ s.lines = ⟨PerLine.const false, PerLine.const none⟩
    ∧ s.tracker = Tracker.afterReset ∧ s.table = ⟨[], 0⟩
    ∧ (∀ p, ∃ st, st.runs = false ∧ s.heads.get p = Channel.cleared st)
    ∧ s.reader = ⟨.idle, [], 0, 0⟩ ∧ s.gate = ⟨true, none, 0⟩ ∧ s.control = ⟨HoldSet.empty, StopSet.empty⟩

/-- Accounting memory as start-up leaves it: a running job in RECOVERY with its IN_FLIGHT entries DOUBT (R173), the
low flag by the fill (R134), all else as it was. -/
def Accounting.startedUp (a : Accounting) : Accounting :=
  let low := { a.log with low := decide (896 < a.log.records.length) }
  if a.header.jobState.inRun then
    { a with
      log := low
      header := { a.header with jobState := .recovery, savedReturn := none }
      register := a.register.map fun e =>
        if e.state = .inFlight then { e with state := .doubt, setIndex := none } else e }
  else { a with log := low }

/-- A line after conditioning begins from the inactive level: its conditioned level and its pending change (R13). -/
def lineBegun (asserted : Bool) (d : Debounce) : Bool × Option Nat :=
  if asserted then (match d with | .off => (true, none) | .ms2 => (false, some 0) | .ms20 => (false, some 0))
  else (false, none)

/-- A line under new settings: its conditioned level and its pending change, from the level it has now (R15). -/
def lineUnder (old new : LineSetting) (high cond : Bool) (pending : Option Nat) : Bool × Option Nat :=
  let asserted := high != new.activeLow
  if old.activeLow ≠ new.activeLow then
    if asserted = cond then (cond, none)
    else match new.debounce with | .off => (asserted, none) | .ms2 => (cond, some 0) | .ms20 => (cond, some 0)
  else
    match pending with
    | some e => if new.debounce.interval ≤ e then (asserted, none) else (cond, some e)
    | none => (cond, none)

/-- The part as a reset of a kind leaves it, with the straps read at it and the accounting memory it found (R171 to
R173, Table 73). WEB_BREAK alone may stand beside POWER_LOSS: a WBRK line with debounce off changes at once. -/
def StartedUp (k : ResetKind) (x : Straps) (a : Accounting) (t : State) : Prop :=
  t.part.powered = true ∧ t.part.rstn = false ∧ t.part.lastReset = k ∧ t.part.straps = x ∧ t.fitted = x.fit
    ∧ t.link.rate = rateOf x.baud1 x.baud0 ∧ t.link.queue = [] ∧ t.link.reply = none ∧ t.link.busy = none
    ∧ t.link.reportsLost = false ∧ t.link.resetAwaiting = false ∧ t.rxControl = .hunting
    ∧ (∀ p, t.rxHead.get p = .hunting) ∧ t.rxReader = .hunting ∧ (∀ p, t.headTx.get p = [])
    ∧ t.acct = a.startedUp
    ∧ (∀ l, (t.lines.conditioned.get l, t.lines.pending.get l) = lineBegun (t.asserted l) (t.setting l).debounce)
    ∧ t.tracker = Tracker.afterReset ∧ t.table = ⟨[], 0⟩
    ∧ (∀ p, t.heads.get p = Channel.cleared
        (if x.fit.get p then (if t.engaged p then .idle else .disengaged) else .unfitted))
    ∧ t.reader = ⟨.idle, [], 0, 0⟩ ∧ t.gate = ⟨true, none, 0⟩ ∧ t.control.holds = HoldSet.empty
    ∧ ∀ c, t.control.stops.has c
        = ((c == .powerLoss && t.jobState == .recovery) || (c == .webBreak && t.lines.conditioned.wbrk))

/-- The straps with a strap pin at a level; a line input is none (R66, R180). -/
def Straps.withPin (x : Straps) (pin : InputPin) (high : Bool) : Straps :=
  match pin with
  | .line _ => x
  | .fit p => { x with fit := x.fit.set p high }
  | .baud1 => { x with baud1 := high }
  | .baud0 => { x with baud0 := high }

/-! ### Steps -/

/-- A step from s to t that takes a command of some kind, or, on an empty queue, one ms of the part's clocks. -/
def MovesBy (kind : Instr → Prop) (s t : State) : Prop :=
  (∃ c, kind c ∧ exec c s = .next t) ∨ (s.pending = [] ∧ step s = .next t)

/-- The pending change of a line reaches its interval with the next ms (R12). -/
def State.expires (s : State) (l : LineId) : Bool :=
  match s.lines.pending.get l with
  | some e => decide ((s.setting l).debounce.interval ≤ e + 1)
  | none => false

/-- One ms on the clocks of a part: t is u but for the lines, the jog pulse and the gap timers; of these the jog pulse
has lost one ms, and each receiver has counted one (R124, R183). -/
def OneMsOn (u t : State) : Prop :=
  t = { u with
    lines := t.lines
    gate := { u.gate with jog := u.gate.jog.bind fun n => if n ≤ 1 then none else some (n - 1) }
    rxControl := u.rxControl.tick, rxHead := t.rxHead, rxReader := u.rxReader.tick }
  ∧ ∀ p, t.rxHead.get p = (u.rxHead.get p).tick

/-! ### Table contents -/

/-- The slot with the record it holds rewritten, if the record satisfies a test. -/
def Slot.rewrite (q : SetRecord → Bool) (f : SetRecord → SetRecord) : Slot → Slot
  | .record r => if q r then .record (f r) else .record r
  | .trace t => .trace t

/-- Every record that satisfies a test rewritten, in place. -/
def SetTable.rewrite (t : SetTable) (q : SetRecord → Bool) (f : SetRecord → SetRecord) : SetTable :=
  { t with slots := t.slots.map (Slot.rewrite q f) }

/-- An update of ply p applied to the OPEN records whose index passes a test (R52, R53). -/
def SetTable.ply (t : SetTable) (p : Ply) (q : Nat → Bool) (st : PlyStatus) : SetTable :=
  t.rewrite (fun r => r.state == .opened && q r.index) (fun r => r.updatePly p st)

/-! ### Events of the press -/

/-- An event of a live part: its effect, after which the transmitter looks for a frame to send. -/
def Becomes (c : Instr) (s t : State) : Prop := exec c s = .next (transmit t)

/-- The cue of a station. -/
def cueOf : StationId → Instr
  | .head p => .headCue p | .marriage => .marriageCue | .reader => .readerCue | .gate => .gateCue

/-- A station of a live part's running job whose next cue carries set index i; below 0 it is a lead-in cue (R1 to
R5). -/
def CueCarries (x : StationId) (i : Int) (s : State) : Prop :=
  s.live = true ∧ s.jobState.inRun = true
    ∧ (∀ p, x = .head p → s.engaged p = true ∧ (s.heads.get p).state ≠ .unfitted)
    ∧ (s.tracker.get x).count < Config.countTop
    ∧ i = ((s.tracker.get x).count : Int) - ((s.tracker.get x).delay.getD 0 : Nat)

/-- The tracker with a cue counted at a station. -/
def State.cued (s : State) (x : StationId) : Tracker :=
  s.tracker.set x { s.tracker.get x with count := (s.tracker.get x).count + 1 }

/-- The outstanding loads of a channel one cue older (R73). -/
def Channel.aged (c : Channel) : List Load := c.queue.map fun l => { l with age := l.age + 1 }

/-- The LOAD frame for numbers on ply p (R69, Table 90). -/
def State.loadOf (s : State) (p : Ply) (tag : Nat) (ns : List Num) : PortFrame :=
  ⟨0x41, loadPayload tag (laneStrings s.scheme (s.acct.job.formats.get p) ns)⟩

/-- The marriage count that the next marriage cue is taken with: raised by 1, or held at the top value (R2). -/
def State.nextMarriage (s : State) : Nat :=
  if s.tracker.marriage.count < Config.countTop then s.tracker.marriage.count + 1 else s.tracker.marriage.count

/-- A station other than M becomes SKEWED at the next marriage cue (R7). -/
def State.loses (s : State) (x : StationId) : Bool :=
  let b := s.tracker.get x
  let n := s.nextMarriage
  b.state == .aligned
    && (decide (b.count + 2 ≤ n) || decide (n + 2 ≤ b.count) || (b.count != n && b.prevSkew))

/-- The payload of a RESULT (R198). -/
def resultPayload (lanes : List LaneEntry) : List Byte :=
  byte lanes.length ::
    (lanes.map fun e => match e with | none => [0xFF] | some str => byte str.length :: str).flatten

/-- The lane entries are ones a RESULT of the job can carry (R89). -/
def State.resultOk (s : State) (lanes : List LaneEntry) : Prop :=
  lanes.length = s.scheme.lanes ∧ lanes.length < 256
    ∧ ∀ str, some str ∈ lanes → str.length ≤ 16 ∧ ∀ b ∈ str, 0x20 ≤ b.toNat ∧ b.toNat ≤ 0x7E

/-- The reader with a retire note written on the pending entry of a set, where there is one (R99). -/
def Reader.noted (x : Reader) (i : Nat) (n : RetireNote) : Reader :=
  if x.state = .reading then
    { x with
      queue := x.queue.map fun e =>
        if e.index = (i : Int) ∧ e.kind = .set ∧ e.note = none then { e with note := some n } else e }
  else x

/-- The marks after a regular set's retirement: each stream's retired mark follows the set's last number on it
(R113). -/
def Header.passed (h : Header) (c : Scheme) (ns : List Num) : Header :=
  { h with
    marks := (h.marks.zip (if c.mode = .split then ns else ns.getLast?.toList)).map fun x =>
      { x.1 with retired := c.markAfter x.2 } }

/-- A set's numbers fit the job's streams: one last number for each stream. -/
def Header.fits (h : Header) (c : Scheme) (ns : List Num) : Prop :=
  h.jumpList = [] ∧ h.marks.length = (if c.mode = .split then ns else ns.getLast?.toList).length

/-- The OPEN record r stands at the gate in a plain retirement: nothing is passed over at its cue, the job is not
draining, and the open bundle reaches no close. -/
def GateAt (i : Nat) (r : SetRecord) (b : OpenBundle) (s : State) : Prop :=
  CueCarries .gate i s ∧ (s.jobState = .running ∨ s.jobState = .hold)
    ∧ (∀ x ∈ s.table.records, x.state = .opened → i ≤ x.index) ∧ s.table.openAt i = some r
    ∧ s.acct.bundle = some b ∧ b.closePending = none ∧ b.sets + 1 ≠ s.policy.bundleSize ∧ b.exceptions.length < 31
    ∧ s.acct.log.records.length ≤ 1024

/-- The OPEN record r stands at the gate with an open bundle, and nothing is passed over at its cue. -/
def AtGate (i : Nat) (r : SetRecord) (b : OpenBundle) (s : State) : Prop :=
  CueCarries .gate i s ∧ (∀ x ∈ s.table.records, x.state = .opened → i ≤ x.index) ∧ s.table.openAt i = some r
    ∧ s.acct.bundle = some b ∧ s.acct.log.records.length ≤ 1024

/-- The header after a regular set's retirement: the marks have passed its numbers, and a jump range that begins where
the one stream's retired mark comes to rest is passed with them and leaves the list (R113, R169). The second clause
passes one range, and speaks of a mark that rests on none after it: ranges that adjoin are one range (R169). -/
def Header.RetiresPast (h : Header) (c : Scheme) (ns : List Num) (next : Header) : Prop :=
  h.marks.length = (if c.mode = .split then ns else ns.getLast?.toList).length →
  let moved := h.passed c ns
  ((∀ m rest x, moved.marks = m :: rest → m.retired = .item x → ∀ q ∈ h.jumpList, q.first.same x = false) →
      next = moved)
    ∧ ∀ m rest x before q after, moved.marks = m :: rest → m.retired = .item x → h.jumpList = before ++ q :: after →
      q.first.same x = true → (∀ o ∈ before, o.first.same x = false) →
      (∀ y, c.markAfter q.last = .item y → ∀ o ∈ before ++ after, o.first.same y = false) →
      next = { moved with marks := { m with retired := c.markAfter q.last } :: rest, jumpList := before ++ after }

/-- A bundle with an exception more, or marked incomplete where its list is full (R119). -/
def OpenBundle.noting (b : OpenBundle) (e : BundleException) : OpenBundle :=
  if b.exceptions.length < 32 then { b with exceptions := b.exceptions ++ [e] } else { b with incomplete := true }

/-- The end of a retirement begun in s, after its own write: the completion check, and where the retirement fills the
manifest queue, hold cause MANIFEST in a write of its own (R113, R125, R161). -/
def State.retired (s w : State) : State :=
  let t := completionCheck w
  if s.acct.manifests.length < 8 ∧ 8 ≤ t.acct.manifests.length then
    let v := raiseHold .manifest t
    { v with journal := v.acct :: t.journal }
  else t

/-- An append of k records to the void log leaves its low flag as it is (R134). -/
def LogCalm (k : Nat) (s : State) : Prop := s.acct.log.low = true ∨ s.acct.log.records.length + k ≤ 896

/-- The reply to a request that is carried out: the next state, with the reply handed to the transmitter. -/
def Answers (c : Instr) (s t : State) (f : CtlFrame) : Prop := exec c s = .next (t.answered f)

/-- The head channels as START sets them up, for a greatest path length D (R71). -/
def State.headsAtStart (s : State) (d : Nat) : PerPly Channel :=
  PerPly.ofFn fun p =>
    if (s.heads.get p).state = .unfitted then s.heads.get p
    else if s.engaged p then
      Channel.cleared (if d ≤ s.acct.job.geometry.dist.get p then .numbering else .leadIn)
    else Channel.cleared .disengaged

/-- The station tracker as START sets it up, for a greatest path length D (R3, R6, R11). -/
def State.trackerAtStart (s : State) (d : Nat) : Tracker where
  heads := PerPly.ofFn fun p =>
    if s.engaged p then ⟨.aligned, false, 0, some (d - s.acct.job.geometry.dist.get p)⟩
    else ⟨.inactive, false, 0, none⟩
  marriage := ⟨.aligned, false, 0, some d⟩
  reader := ⟨.aligned, false, 0, some (d + s.acct.job.geometry.readerV)⟩
  gate := ⟨.aligned, false, 0, some (d + s.acct.job.geometry.gateG)⟩

/-- D is the greatest path length of an engaged ply (R3). -/
def Geometry.GreatestPath (g : Geometry) (d : Nat) : Prop :=
  (∀ p, g.engaged.get p = true → g.dist.get p ≤ d) ∧ ∃ p, g.engaged.get p = true ∧ g.dist.get p = d

/-- The volatile blocks of a state set up for a run (R156). -/
def State.setUp (s : State) (d : Nat) : State :=
  { s with
    tracker := s.trackerAtStart d, table := ⟨[], 0⟩, heads := s.headsAtStart d, reader := ⟨.reading, [], 0, 0⟩
    gate := { s.gate with divert := true, spoilRun := 0 } }

/-- The continuity header in a job state with a saved return state. -/
def Accounting.inState (a : Accounting) (j : JobState) (back : Option JobState) : Accounting :=
  { a with header := { a.header with jobState := j, savedReturn := back } }

/-- A state after a request that may complete the job: the completion check (R161), and where its FINAL close fills the
manifest queue the write that tells the job controller, which outside a run changes nothing (R125). -/
def State.checked (s : State) : State :=
  let t := completionCheck s
  if s.acct.manifests.length < 8 ∧ 8 ≤ t.acct.manifests.length then { t with journal := t.acct :: t.journal } else t

/-- The condition of a latched cause has ended (Table 71). -/
def Table71 (s : State) : StopCause → Bool
  | .headFault p => decide ((s.heads.get p).state ≠ .faulted)
  | .skew p => decide ((s.heads.get p).state ≠ .faulted)
  | .readerFault => !s.reader.state.suspended && decide (s.tracker.reader.state ≠ .skewed)
  | .readerSkew => !s.reader.state.suspended && decide (s.tracker.reader.state ≠ .skewed)
  | .gateSkew => decide (s.tracker.gate.state ≠ .skewed)
  | .webBreak => !s.lines.conditioned.wbrk
  | .exhausted => !s.control.holds.exhausted
  | .powerLoss => decide (s.jobState ≠ .recovery)
  | .readFail => true
  | .spoilRun => true

/-! ### Invariants -/

/-- The set table's ring is in its canonical form, and every index in it lies below the frontier (R42, R45). -/
def RingInv (s : State) : Prop := s.table.wf = true ∧ ∀ x ∈ s.table.slots, x.index < s.table.frontier

/-- The parts of accounting memory that have a stated size keep to it: void log, remake register, manifest queue,
exception lists, counters (R117, R125, R132, R138, R143). -/
def Accounting.Fits (a : Accounting) : Prop :=
  a.log.records.length ≤ 1024 ∧ a.register.length ≤ 64 ∧ a.manifests.length ≤ 8
    ∧ (∀ b, a.bundle = some b → b.exceptions.length ≤ 32) ∧ (∀ m ∈ a.manifests, m.exceptions.length ≤ 32)
    ∧ ∀ c ∈ a.counters.toList, c.value ≤ 99999999

/-- Every queue and store of the part keeps to its size: those of accounting memory, now and after each write of the
last step, and the request, report, head and reader queues (R70, R90, R170, R185, R190). -/
def CapacityInv (s : State) : Prop :=
  s.acct.Fits ∧ (∀ a ∈ s.journal, a.Fits) ∧ s.link.queue.length ≤ 4 ∧ s.link.reports.length ≤ 32
    ∧ s.reader.queue.length ≤ 4 ∧ ∀ p, (s.heads.get p).queue.length ≤ 2

/-- How many numbers the holders of Table 51 have: OPEN regular records, pending-void rows and register entries. -/
def State.heldNumbers (s : State) : Nat :=
  ((s.table.records.filter fun r => r.state == .opened && r.kind == .regular).map fun r => r.numbers.length).sum
    + (s.acct.rows.map fun w => w.numbers.length).sum + (s.acct.register.map fun e => e.numbers.length).sum

/-- The ledger of issued numbers outside RECOVERY (R129, R130): the balance with its holders in order. Entry numbers are
distinct and lie below the next one; each OPEN remake record names an IN_FLIGHT entry that holds its index and numbers,
and each IN_FLIGHT entry has its record; each VOID_PENDING record has one pending-void row with its numbers, and in a
run each row has its record; OPEN records stand only in a run; ISSUED is not saturated. -/
def LedgerInv (s : State) : Prop :=
  s.acct.counters.issued.value =
      s.acct.counters.delivered.value + s.acct.counters.voided.value + s.heldNumbers
    ∧ s.acct.counters.issued.saturated = false ∧ s.acct.counters.issued.value ≤ 99999999
    ∧ (s.acct.register.map RemakeEntry.number).Nodup ∧ (∀ e ∈ s.acct.register, e.number < s.acct.nextEntry)
    ∧ (∀ r ∈ s.table.records, r.state = .opened → s.jobState.inRun = true
        ∧ (r.kind = .remake → ∃ e ∈ s.acct.register, r.entry = some e.number ∧ e.state = .inFlight
            ∧ e.setIndex = some r.index ∧ e.numbers = r.numbers))
    ∧ (∀ e ∈ s.acct.register, e.state = .inFlight → ∃ r ∈ s.table.records, r.state = .opened ∧ r.kind = .remake
        ∧ r.entry = some e.number ∧ e.setIndex = some r.index)
    ∧ (∀ r ∈ s.table.records, r.state = .voidPending →
        ∃ w ∈ s.acct.rows, w.setIndex = some r.index ∧ w.numbers.map Prod.fst = r.numbers)
    ∧ (s.acct.rows.filterMap PendingRow.setIndex).Nodup
    ∧ (s.jobState.inRun = true → ∀ w ∈ s.acct.rows, ∀ i, w.setIndex = some i →
        ∃ r ∈ s.table.records, r.index = i ∧ r.state = .voidPending)

/-- Nothing of a run goes on: every station is INACTIVE, no channel is running, the reader is IDLE with an empty queue,
DIVERT is asserted (R1, R65, R88, R109). -/
def State.Quiet (s : State) : Prop :=
  (∀ i, (s.tracker.get i).state = .inactive) ∧ (∀ p, (s.heads.get p).state.runs = false)
    ∧ s.reader.state = .idle ∧ s.reader.queue = [] ∧ s.gate.divert = true

/-- A powered part whose job is not RUNNING, HOLD or DRAINING, or which RSTn holds in reset, is quiet, and holds no
hold cause; hold causes are held only in HOLD (R1, R6, R65, R88, R109, R157, R171). -/
def QuietInv (s : State) : Prop :=
  s.part.powered = true →
    ((s.part.rstn = true ∨ s.jobState.inRun = false) → s.Quiet)
      ∧ (s.part.rstn = true ∨ s.jobState ≠ .hold → s.control.holds = HoldSet.empty)

/-- Each channel's outstanding loads carry distinct tags 0 to 3, and the tag counter is 0 to 3 (R69). -/
def TagInv (s : State) : Prop :=
  ∀ p, ((s.heads.get p).queue.map Load.tag).Nodup ∧ (∀ l ∈ (s.heads.get p).queue, l.tag < 4)
    ∧ (s.heads.get p).queue.length ≤ 2 ∧ (s.heads.get p).tagCounter < 4

/-- A saved return state is RUNNING or DRAINING, and is held only in HOLD (R157, R168). -/
def Header.savedOk (h : Header) : Prop :=
  ∀ j, h.savedReturn = some j → h.jobState = .hold ∧ (j = .running ∨ j = .draining)

/-- The header's saved return state is a legal one, now and after each write of the last step; the marriage station is
never SKEWED; and a live part times a change of a line only toward the level the line does not have (Section 1.3, R12,
R157, R168, R170). -/
def LegalInv (s : State) : Prop :=
  s.acct.header.savedOk ∧ (∀ a ∈ s.journal, a.header.savedOk) ∧ s.tracker.marriage.state ≠ .skewed
    ∧ (s.live = true → ∀ l, (s.lines.pending.get l).isSome = true → s.asserted l ≠ s.lines.conditioned.get l)

/-! ### The streams and the sets in doubt -/

/-- From the marks `ms` a stream's issues give the sets in turn and end at the marks `stop`: each set is what an
allocation issues (R32, R33), and after a set there may be one jump range, at the next of the ranges, which begins at the
next regular number and ends just before the marks the next set is issued from (R165, R169). -/
def Scheme.Issues (c : Scheme) : List Mark → List JumpRange → List (List Num) → List Mark → Prop
  | ms, js, [], stop => ms = stop ∧ js = []
  | ms, js, ns :: sets, stop =>
    ∃ ex next, c.issueSet ms = some (ns, ex, next)
      ∧ (c.Issues next js sets stop
        ∨ ∃ x r rest, next = [.item x] ∧ js = r :: rest ∧ r.first.same x = true ∧ c.posOf r.last ≤ c.lastPos
            ∧ (c.posOf r.last = c.posOf x ∨ c.forward (c.posOf x) (c.posOf r.last) = true)
            ∧ c.stepsFrom (c.posOf x) (c.distance (c.posOf x) (c.posOf r.last)) = c.posOf r.last
            ∧ c.Issues [c.markAfter r.last] rest sets stop)

/-- A mark is END, or an item of the stream from the start number (R23, R145). -/
def Scheme.MarkOk (c : Scheme) (m : Mark) : Prop :=
  ∀ n, m = .item n → n = c.numAt (c.posOf n) ∧ c.onStream (c.posOf n) = true

/-- The marks of accounting memory and the sets between them. The scheme is in range, and outside IDLE has passed the
checks of COMMIT that concern the stream; there are no marks before START, and one pair for each stream in a job that
runs, is to be recovered or resumed; from the retired marks to the allocation marks lie the sets given, none but in a run
and in RECOVERY; and with the pending-void rows they are at most 256 (R18, R37, R57, R145, R169). -/
def Accounting.StreamOk (a : Accounting) (sets : List (List Num)) : Prop :=
  let c := a.job.scheme
  let j := a.header.jobState
  let held := j.inRun = true ∨ j = .recovery
  c.inRange = true ∧ (∀ o, c.startSeries = some o → o < 576)
    ∧ (j ≠ .idle → c.startOk = true ∧ (c.method = .mod11s → c.stepK = 1 ∧ c.mode ≠ .split)
        ∧ (c.method ≠ .mod11s → c.holds c.startPos c.itemsNeeded = true))
    ∧ (j = .idle ∨ j = .loaded → a.header.marks = [])
    ∧ (held ∨ j = .resumable → a.header.marks.length = c.streamCount)
    ∧ (∀ m ∈ a.header.marks, c.MarkOk m.retired)
    ∧ c.Issues (a.header.marks.map StreamMarks.retired) a.header.jumpList sets (a.header.marks.map StreamMarks.alloc)
    ∧ (¬ held → sets = []) ∧ a.rows.length + sets.length ≤ 256

/-- The streams hold the sets in doubt: accounting memory, now and after each write of the last step, holds its marks with
some sets between them; on a live part in a run these are the numbers of the OPEN REGULAR records in order of set index,
and each pending-void row has its own VOID_PENDING record; a powered part held in reset or outside a run has no OPEN
record (R57, R62, R64, R145, R169, R174). -/
def StreamInv (s : State) : Prop :=
  (∃ sets, s.acct.StreamOk sets) ∧ (∀ a ∈ s.journal, ∃ sets, a.StreamOk sets)
    ∧ (s.live = true → s.jobState.inRun = true →
      (s.acct.rows.map PendingRow.setIndex).Nodup
        ∧ (∀ w ∈ s.acct.rows, ∃ r ∈ s.table.records, w.setIndex = some r.index ∧ r.state = .voidPending)
        ∧ ∃ rs : List SetRecord, rs.Pairwise (fun a b => a.index < b.index)
          ∧ (∀ r, r ∈ rs ↔ r ∈ s.table.records ∧ r.state = .opened ∧ r.kind = .regular)
          ∧ s.acct.StreamOk (rs.map SetRecord.numbers))
    ∧ (s.part.powered = true → s.part.rstn = true ∨ s.jobState.inRun = false →
      ∀ r ∈ s.table.records, r.state ≠ .opened)

end Sys2Proof.Machine
end

