-- ==== Sys2Proof/Certificates/Slice0/Obligations.lean ====
section
/-! DEFINITION. The statements for the provers. Where a statement gives a whole next state, its `journal` is the model's
account of the accounting writes (log entry 22), and the transmitter's look for a frame at the end of an event is log
entry 15. Where a request is answered in the step of its command (`ready`, `answered`, `Answers`, `AnswersOnly`,
`AnswersNext`), that it is taken in the step in which its frame arrives is log entry 2, and that a request command is a
whole good frame whatever the receiver was doing, with operands of any size, is log entry 24. -/

open Sys2Proof Sys2Proof.Machine

/-! ### The queue of commands -/

/-- A step takes the command at the front of the queue and runs it with the queue's rest. -/
def Obligations.StepTakesTheFront : Prop :=
  ∀ (c : Instr) (rest : List Instr) (s : State),
    step { s with pending := c :: rest } = exec c { s with pending := rest }

/-- Every command ends in a next state, and none touches the queue of commands. That no command stops the block is the
model's choice (log entry 4). -/
def Obligations.CommandsLeaveTheQueue : Prop :=
  ∀ (c : Instr) (s : State), ∃ t, exec c s = .next t ∧ t.pending = s.pending

/-- JOG_END ends the jog pulse (R124). On an empty queue a step is one ms of the part's clocks (the model's choice, log
entry 6): every pending line change has lasted one ms more, and one that has now held for its interval, 2 ms or 20 ms, is
taken as DEBOUNCE_EXPIRED takes it (R12); the jog pulse loses one ms and ends with its last; each receiver's gap timer
counts, and a frame whose next byte has stayed away longer than 20 ms is dropped (R183). A part that takes no event
idles. -/
def Obligations.ClocksCountOneMillisecond : Prop :=
  (∀ s : State, s.live = true →
    exec .jogEnd s = .next (transmit { openJournal s with gate := { s.gate with jog := none } }))
  ∧ (∀ s : State, s.live = false → s.pending = [] → step s = .next s)
  ∧ (∀ s : State, s.live = true → s.pending = [] →
    ∃ t, step s = .next t ∧ ∀ l, (t.lines.conditioned.get l, t.lines.pending.get l) =
      match s.lines.pending.get l with
      | none => (s.lines.conditioned.get l, none)
      | some e => if (s.setting l).debounce.interval ≤ e + 1 then (s.asserted l, none)
          else (s.lines.conditioned.get l, some (e + 1)))
  ∧ (∀ s : State, s.live = true → s.pending = [] → (∀ l, s.expires l = false) →
    ∃ t, step s = .next (transmit t) ∧ OneMsOn (openJournal s) t)
  ∧ (∀ (l : LineId) (s : State), s.live = true → s.pending = [] → s.expires l = true →
    (∀ m, m ≠ l → s.expires m = false) →
    ∃ u t, Becomes (.debounceExpired l) s u ∧ step s = .next (transmit t) ∧ OneMsOn u t)
  ∧ (∀ d : Debounce, d.interval = match d with | .off => 0 | .ms2 => 2 | .ms20 => 20)
  ∧ ∀ (got : List Byte) (gap : Nat),
    Receiver.tick (.inFrame got gap) = (if 20 ≤ gap then .hunting else .inFrame got (gap + 1))

/-! ### Invariants and laws of the whole machine -/

/-- The part after reset meets every invariant. -/
def Obligations.ResetMeetsTheInvariants : Prop :=
  RingInv State.reset ∧ CapacityInv State.reset ∧ QuietInv State.reset ∧ TagInv State.reset ∧ LegalInv State.reset
    ∧ LedgerInv State.reset ∧ StreamInv State.reset

/-- Every step keeps the ring of the set table in its canonical form (R42). -/
def Obligations.RingKept : Prop := ∀ s t : State, RingInv s → step s = .next t → RingInv t

/-- Every step keeps every queue, store and counter to its size (R70, R90, R117, R125, R132, R138, R143, R185, R190). The
pending-void rows and the jump list have no test of their own: where the streams hold the sets in doubt, which
`StreamsHoldTheSetsInDoubt` says every step keeps, they are at most 256 each (R57, R169), now and after each write of the
last step. -/
def Obligations.CapacitiesKept : Prop :=
  (∀ s t : State, CapacityInv s → step s = .next t → CapacityInv t)
  ∧ ∀ s : State, StreamInv s → ∀ a, a = s.acct ∨ a ∈ s.journal → a.rows.length ≤ 256 ∧ a.header.jumpList.length ≤ 256

/-- Every step keeps the blocks of a run at rest outside RUNNING, HOLD and DRAINING (R1, R65, R88, R109, R157). -/
def Obligations.QuietKept : Prop := ∀ s t : State, QuietInv s → LegalInv s → step s = .next t → QuietInv t

/-- Every step keeps the tags of a head's outstanding loads distinct (R69), the saved return state a legal one, station M
out of SKEWED, and the changes that lines time toward the level they do not have (Section 1.3, R12, R157, R168). -/
def Obligations.TagsAndSavedStatesKept : Prop :=
  (
  ∀ s t : State, TagInv s → step s = .next t → TagInv t
  )
  ∧ (
  ∀ s t : State, LegalInv s → step s = .next t → LegalInv t
  )

/-- While a job runs, drains, recovers or waits to be resumed, no counter falls and no saturated indication clears, and
nothing changes the job definition, the line settings or the lane starts but a SET_LINES outside a run; only a power
loss or a reset can take back the writes of the last step (R15, R41, R143, R144, R150, R153, R170). -/
def Obligations.DefinitionAndCountersStandInAJob : Prop :=
  (
    ∀ s t : State, (s.jobState.inRun = true ∨ s.jobState = .recovery ∨ s.jobState = .resumable) → s.acct.Fits →
    MovesBy (fun c => (∀ n, c ≠ .powerFail n) ∧ ∀ n, c ≠ .rstnActive n) s t → ∀ (i : Nat) (a b : Counter), s.acct.counters.toList[i]? = some a →
    t.acct.counters.toList[i]? = some b → a.value ≤ b.value ∧ (a.saturated = true → b.saturated = true)
  )
  ∧ (
    ∀ s t : State, (s.jobState.inRun = true ∨ s.jobState = .recovery ∨ s.jobState = .resumable) →
    MovesBy (fun c => (∀ n, c ≠ .powerFail n) ∧ ∀ n, c ≠ .rstnActive n) s t →
    t.acct.job = s.acct.job ∧ t.acct.laneStarts = s.acct.laneStarts
      ∧ (s.jobState.inRun = true → t.acct.lineSettings = s.acct.lineSettings)
  )

/-- A record in a slot keeps what it is, whatever command is taken or ms passes: its kind, numbers, entry and attempt stand; a spoil
status, a host cull mark, a SKEWED marriage and a verification OFF or MISMATCH stand; VOID_PENDING stands. A step that
does not empty the table never lowers the frontier (R43, R45, R53, R55, R57, R61). -/
def Obligations.RecordsOnlyGetWorse : Prop :=
  ∀ s t : State, RingInv s → MovesBy (fun _ => True) s t → t.table = ⟨[], 0⟩ ∨ s.table.frontier ≤ t.table.frontier
    ∧ ∀ (i : Nat) (a b : SetRecord), s.table.recordAt i = some a → t.table.recordAt i = some b →
      b.kind = a.kind ∧ b.numbers = a.numbers ∧ b.entry = a.entry ∧ b.attempt = a.attempt
        ∧ (∀ p, (b.plies.get p).isSome = (a.plies.get p).isSome)
        ∧ (∀ p st, a.plies.get p = some st → st.spoil = true → b.plies.get p = some st)
        ∧ (a.hostCull = true → b.hostCull = true) ∧ (a.marriage = .skewed → b.marriage = .skewed)
        ∧ (a.marriage ≠ .notYet → b.marriage ≠ .notYet) ∧ (a.verification = .off → b.verification = .off)
        ∧ (∀ l p cls, a.verification = .mismatch l p cls → b.verification = .mismatch l p cls)
        ∧ (a.state = .voidPending → b = a)

/-- Issued numbers are conserved. Outside RECOVERY, every number issued is delivered, voided, on an OPEN regular record,
on a pending-void row or in the remake register, and every step of a live part, by a command or by a ms of its clocks, keeps it so (R129, R130). -/
def Obligations.NumbersAreConserved : Prop :=
  ∀ s t : State, s.live = true → t.live = true → LedgerInv s → RingInv s → QuietInv s → LegalInv s →
    s.jobState ≠ .recovery → t.jobState ≠ .recovery → MovesBy (fun _ => True) s t →
    t.acct.counters.issued.saturated = false → LedgerInv t

/-! ### Frames and layouts -/

/-- The bytes of a good frame, received by a hunting receiver, do what the command of its kind does (R182, R185): on a
link that takes requests at once the request is tested and answered; behind a reply still to be sent it waits; with four
waiting it is answered BUSY (R186). That a request is taken in the step in which its frame arrives is the model's choice
(log entry 2). -/
def Obligations.FrameBytesDoTheRequest : Prop :=
  (∀ (f : CtlFrame) (s : State), f.payload.length ≤ 240 → s.rxControl = .hunting →
    exec (.controlFrame f.wire) s =
      match RequestKind.ofByte f.kind with
      | some k => exec (Instr.ofRequest k f.tag f.payload) s
      | none => exec (.unknownKind f.kind f.tag f.payload) s)
  ∧ (∀ (f : CtlFrame) (s : State), f.payload.length ≤ 240 → s.rxControl = .hunting → s.ready = true →
    let taken := takeRequest f (openJournal s)
    exec (.controlFrame f.wire) s = .next (taken.1.answered (replyFrame f taken.2)))
  ∧ (∀ (f : CtlFrame) (s : State), f.payload.length ≤ 240 → s.rxControl = .hunting → s.live = true →
    s.link.outstanding = true → s.link.queue.length < 4 →
    exec (.controlFrame f.wire) s =
      .next (transmit { openJournal s with link := { s.link with queue := s.link.queue ++ [f] } }))
  ∧ ∀ (f : CtlFrame) (s : State), f.payload.length ≤ 240 → s.rxControl = .hunting → s.live = true →
    4 ≤ s.link.queue.length → s.link.busy = none →
    exec (.controlFrame f.wire) s = .next (transmit { openJournal s with
      link := { s.link with busy := some (replyFrame f [0x09]) } })

/-- The bytes of a good frame on a head link or the reader port, received by a hunting receiver, do what the command of
the message does, whatever follows them on the line (R68, R89, R182, R198). What a typed message command does on its port
is log entries 24 and 25. -/
def Obligations.PortBytesDoTheMessage : Prop :=
  (∀ (p : Ply) (tag outcome : Byte) (s : State), s.rxHead.get p = .hunting →
    exec (.interByteGap (.head p) (PortFrame.wire ⟨0xC1, [tag, outcome]⟩)) s = exec (.done p tag outcome) s)
  ∧ (∀ (p : Ply) (code : Byte) (s : State), s.rxHead.get p = .hunting →
    exec (.framingError (.head p) (PortFrame.wire ⟨0xC2, [code]⟩)) s = exec (.headfault p code) s)
  ∧ (∀ (pl : List Byte) (s : State), pl.length ≤ 240 → s.rxReader = .hunting →
    exec (.interByteGap .reader (PortFrame.wire ⟨0xD1, pl⟩)) s = exec (.result pl) s)
  ∧ ∀ (code : Byte) (s : State), s.rxReader = .hunting →
    exec (.framingError .reader (PortFrame.wire ⟨0xD2, [code]⟩)) s = exec (.readerfault code) s

/-- A frame with a wrong CRC or a length outside its range, and a frame cut by a gap over 20 ms or by a framing error,
leaves no trace, on the control link, the head links and the reader port (R182, R183). -/
def Obligations.BrokenFramesLeaveNoTrace : Prop :=
  (∀ (body : List Byte) (hi lo : Byte) (s : State), s.live = true → s.rxControl = .hunting →
    2 ≤ body.length → body.length ≤ 242 → [hi, lo] ≠ be16 (crc (be16 body.length ++ body)).toNat →
    exec (.controlFrame (startByte :: (be16 body.length ++ body ++ [hi, lo]))) s = .next (transmit (openJournal s)))
  ∧ (∀ (n : Nat) (s : State), s.live = true → s.rxControl = .hunting → n < 65536 → n < 2 ∨ 242 < n →
    exec (.controlFrame (startByte :: be16 n)) s = .next (transmit (openJournal s)))
  ∧ (∀ (p : Ply) (body : List Byte) (hi lo : Byte) (s : State), s.live = true → s.rxHead.get p = .hunting →
    1 ≤ body.length → body.length ≤ 241 → [hi, lo] ≠ be16 (crc (be16 body.length ++ body)).toNat →
    ∀ bs, bs = startByte :: (be16 body.length ++ body ++ [hi, lo]) →
    exec (.interByteGap (.head p) bs) s = .next (transmit (openJournal s))
      ∧ exec (.framingError (.head p) bs) s = .next (transmit (openJournal s)))
  ∧ (∀ (p : Ply) (n : Nat) (s : State), s.live = true → s.rxHead.get p = .hunting → n < 65536 → n < 1 ∨ 241 < n →
    exec (.interByteGap (.head p) (startByte :: be16 n)) s = .next (transmit (openJournal s))
      ∧ exec (.framingError (.head p) (startByte :: be16 n)) s = .next (transmit (openJournal s)))
  ∧ (∀ (body : List Byte) (hi lo : Byte) (s : State), s.live = true → s.rxReader = .hunting →
    1 ≤ body.length → body.length ≤ 241 → [hi, lo] ≠ be16 (crc (be16 body.length ++ body)).toNat →
    ∀ bs, bs = startByte :: (be16 body.length ++ body ++ [hi, lo]) →
    exec (.interByteGap .reader bs) s = .next (transmit (openJournal s))
      ∧ exec (.framingError .reader bs) s = .next (transmit (openJournal s)))
  ∧ (∀ (n : Nat) (s : State), s.live = true → s.rxReader = .hunting → n < 65536 → n < 1 ∨ 241 < n →
    exec (.interByteGap .reader (startByte :: be16 n)) s = .next (transmit (openJournal s))
      ∧ exec (.framingError .reader (startByte :: be16 n)) s = .next (transmit (openJournal s)))
  ∧ (∀ (f : CtlFrame) (n : Nat) (s : State), s.live = true → s.rxControl = .hunting → f.payload.length ≤ 240 →
    n < f.wire.length →
    exec (.interByteGap .control (f.wire.take n)) s = .next (transmit (openJournal s))
      ∧ exec (.framingError .control (f.wire.take n)) s = .next (transmit (openJournal s)))
  ∧ (∀ (p : Ply) (f : PortFrame) (n : Nat) (s : State), s.live = true → s.rxHead.get p = .hunting →
    f.payload.length ≤ 240 → n < f.wire.length →
    exec (.interByteGap (.head p) (f.wire.take n)) s = .next (transmit (openJournal s))
      ∧ exec (.framingError (.head p) (f.wire.take n)) s = .next (transmit (openJournal s)))
  ∧ ∀ (f : PortFrame) (n : Nat) (s : State), s.live = true → s.rxReader = .hunting →
    f.payload.length ≤ 240 → n < f.wire.length →
    exec (.interByteGap .reader (f.wire.take n)) s = .next (transmit (openJournal s))
      ∧ exec (.framingError .reader (f.wire.take n)) s = .next (transmit (openJournal s))

/-- The definition blocks and line settings that the part writes in its replies, it reads back from a request as they
were (R18, R38, R151, R152, R197, R201); and a number of the job's space, from its number field (R196). -/
def Obligations.BlocksReadBackAsWritten : Prop :=
  (∀ g : Geometry, g.inRange = true → Geometry.ofPayload g.bytes = some g)
  ∧ (∀ (c : Scheme) (chk : Byte), c.inRange = true → c.jobId < 4294967296 →
    (∀ o, c.startSeries = some o → c.seriesOn = true ∧ o < 576) → Scheme.ofPayload (c.bytes chk) = some c)
  ∧ (∀ (p : Ply) (f : Format), f.lead.length ≤ 3 → f.lead.all leadCharOk = true →
    Format.ofPayload (f.bytes p) = some (p, f))
  ∧ (∀ q : Policy, q.inRange = true → (q.mask.lane1 || q.mask.lane2 || q.mask.lane3) = true →
    Policy.ofPayload q.bytes = some q)
  ∧ (∀ x : LineSettings, LineSettings.ofPayload x.bytes = some x)
  ∧ (∀ x : StopSet, StopSet.ofPayload x.bytes = some x)
  ∧ ∀ (c : Scheme) (n : Machine.Num), c.inRange = true → n.series.isSome = c.seriesOn → (∀ o, n.series = some o → o < 576) →
    c.base ≤ n.serial → n.serial < 10 ^ c.width →
    c.member (suppliedAt (numField n) 0) = some { n with check := c.checkOf n.serial }

/-! ### The control link -/

/-- The transmitter's order: nothing while it sends; then BUSY, then a report after a reply, then the reply, then a
report; of the reports the oldest ALERT, or the oldest NOTICE where no ALERT waits. A report joins the tail while 32 do
not wait; in a full queue a NOTICE is dropped, and an ALERT takes the place of the youngest NOTICE or, with none to
displace, is dropped; a loss sets the reports-lost flag (R187, R190, R191). -/
def Obligations.RepliesAndReportsAreOrdered : Prop :=
  (
    ∀ l : Link,
    (l.sending.isSome = true → l.choose = l)
    ∧ (l.sending = none →
      (∀ f, l.busy = some f → l.choose = { l with busy := none, sending := some (.busy, f) })
      ∧ (l.busy = none →
        (∀ f, l.reply = some f → l.lastWasReply = false ∨ l.reports = [] →
          l.choose = { l with reply := none, sending := some (.reply, f) })
        ∧ (l.reports ≠ [] → l.lastWasReply = true ∨ l.reply = none →
          ∃ before r after, l.reports = before ++ r :: after
            ∧ (if ∀ x ∈ l.reports, x.kind.alert = false then before = []
                else r.kind.alert = true ∧ ∀ x ∈ before, x.kind.alert = false)
            ∧ l.choose = { l with reports := before ++ after, sending := some (.report, r.frame) })
        ∧ (l.reply = none → l.reports = [] → l.choose = l)))
  )
  ∧ (
    ∀ (l : Link) (r : Report),
    (l.reports.length < 32 → l.addReport r = { l with reports := l.reports ++ [r] })
    ∧ (32 ≤ l.reports.length →
      (r.kind.alert = false ∨ (∀ x ∈ l.reports, x.kind.alert = true) → l.addReport r = { l with reportsLost := true })
      ∧ ∀ before n after, l.reports = before ++ n :: after → n.kind.alert = false →
        (∀ x ∈ after, x.kind.alert = true) → r.kind.alert = true →
        l.addReport r = { l with reports := before ++ after ++ [r], reportsLost := true })
  )

/-- A good frame that finds a request before it unanswered waits in the queue; one that finds four waiting is answered
BUSY, or is discarded where a BUSY reply waits already; its contents are not examined (R185). -/
def Obligations.RequestsWaitOrAreAnsweredBusy : Prop :=
  ∀ (k : RequestKind) (tag : Byte) (pl : List Byte) (s : State), s.live = true → s.rxControl ≠ .awaitMark →
    (s.link.outstanding = true → s.link.queue.length < 4 →
      exec (Instr.ofRequest k tag pl) s = .next (transmit { openJournal s with
        link := { s.link with queue := s.link.queue ++ [⟨k.code, tag, pl⟩] }, rxControl := .hunting }))
    ∧ (4 ≤ s.link.queue.length → s.link.busy = none →
      exec (Instr.ofRequest k tag pl) s = .next (transmit { openJournal s with
        link := { s.link with busy := some (replyTo k tag [0x09]) }, rxControl := .hunting }))
    ∧ (4 ≤ s.link.queue.length → s.link.busy.isSome = true →
      exec (Instr.ofRequest k tag pl) s = .next (transmit { openJournal s with rxControl := .hunting }))

/-- The refusals UNKNOWN_KIND, FORMAT, PRIVILEGE, in their order, by the control link (R186, R188), then STATE and RANGE by
the request's owner (R15, R60, R82, R102, R116, R127, R136, R149, R153 to R165, R167, R175): each is answered with its
status alone and changes nothing else. Which bytes the FORMAT test looks at is partly the model's choice (log entry 19). -/
def Obligations.RefusalsChangeNothing : Prop :=
  (
    (∀ (kind tag : Byte) (pl : List Byte) (s : State), s.ready = true → RequestKind.ofByte kind = none →
    AnswersOnly (.unknownKind kind tag pl) s ⟨0xFF, tag, [0x01]⟩)
  ∧ ∀ (k : RequestKind) (tag : Byte) (pl : List Byte) (s : State), s.ready = true →
    (formatOk k pl = false → AnswersOnly (Instr.ofRequest k tag pl) s (replyTo k tag [0x02]))
    ∧ (formatOk k pl = true → supervisorOnly k = true → s.key = false →
      AnswersOnly (Instr.ofRequest k tag pl) s (replyTo k tag [0x03]))
  )
  ∧ (
    ∀ (k : RequestKind) (tag : Byte) (pl : List Byte) (s : State), s.ready = true → formatOk k pl = true →
    (supervisorOnly k = true → s.key = true) →
    ((match k with
      | .setLines => s.jobState.inRun = true
      | .setGeometry | .setScheme | .setFormat | .setPolicy => s.jobState ≠ .idle ∧ s.jobState ≠ .loaded
      | .commit => s.jobState ≠ .idle
      | .start => s.jobState ≠ .loaded ∧ s.jobState ≠ .resumable
      | .hold | .cull => s.jobState.inRun = false
      | .release => s.jobState ≠ .hold
      | .abort => s.jobState = .idle ∨ s.jobState = .complete ∨ s.jobState = .aborted
      | .close => s.jobState ≠ .complete ∧ s.jobState ≠ .aborted
      | .jumpIf => (s.jobState ≠ .running ∧ s.jobState ≠ .hold) ∨ s.scheme.mode = .split
      | .recover => s.jobState ≠ .recovery
      | .headResume => (Ply.ofNumber (u8 pl 0)).isSome = true
          ∧ (s.jobState.inRun = false ∨ ∀ p, Ply.ofNumber (u8 pl 0) = some p → (s.heads.get p).state ≠ .faulted)
      | .readerResume => s.jobState.inRun = false ∨ s.reader.state.suspended = false
      | .gateResume => s.jobState.inRun = false ∨ s.tracker.gate.state ≠ .skewed
      | _ => False) → AnswersOnly (Instr.ofRequest k tag pl) s (replyTo k tag [0x04]))
    ∧ ((match k with
      | .setLines => s.jobState.inRun = false ∧ LineSettings.ofPayload pl = none
      | .setGeometry => (s.jobState = .idle ∨ s.jobState = .loaded) ∧ Geometry.ofPayload pl = none
      | .setScheme => (s.jobState = .idle ∨ s.jobState = .loaded) ∧ Scheme.ofPayload pl = none
      | .setFormat => (s.jobState = .idle ∨ s.jobState = .loaded) ∧ Format.ofPayload pl = none
      | .setPolicy => (s.jobState = .idle ∨ s.jobState = .loaded) ∧ Policy.ofPayload pl = none
      | .recover => s.jobState = .recovery ∧ 1 < u8 pl 0
      | .stopClear => 64 ≤ u8 pl 0 ∨ 64 ≤ u8 pl 1
      | .cull => s.jobState.inRun = true
          ∧ (if u8 pl 0 = 0 then u16 pl 5 = 0 ∨ 256 < u16 pl 5 ∨ Config.countTop < u32 pl 1 + u16 pl 5 - 1
             else u8 pl 9 = 0 ∨ s.scheme.lanes < u8 pl 9)
      | .headResume => u8 pl 0 = 0 ∨ 6 < u8 pl 0
      | .manifestFree => u8 pl 0 = 0 ∨ 8 < u8 pl 0 ∨ s.acct.manifests.length < u8 pl 0
      | .logFree => u16 pl 0 = 0 ∨ 1024 < u16 pl 0 ∨ s.acct.log.records.length < u16 pl 0
      | _ => False) → AnswersOnly (Instr.ofRequest k tag pl) s (replyTo k tag [0x05]))
  )

/-- FRAME_SENT: a head link goes on to the next of its frames; on the control link the frame ends, and the next request is
taken where one waits and no reply does. A link break empties the control link and touches nothing else; where RESET's
reply was still to be sent, the part is reset at once (R171 to R173); the receiver hunts again when the line is back at
mark (R69, R184, R186, R187, Table 77). That a break keeps whether the frame last sent was a reply is the model's choice
(log entry 8), as is the hunting receiver after a break that resets the part (log entry 10). -/
def Obligations.FramesEndAndBreaksReset : Prop :=
  (
    (∀ (p : Ply) (s : State), s.live = true →
    exec (.frameSent (.head p)) s =
      .next (transmit { openJournal s with headTx := s.headTx.set p (s.headTx.get p).tail }))
  ∧ (∀ s : State, s.live = true → exec (.frameSent .reader) s = .next (transmit (openJournal s)))
  ∧ (∀ (src : TxSource) (f : CtlFrame) (s : State), s.live = true → s.link.sending = some (src, f) →
    src ≠ .reply ∨ s.link.resetAwaiting = false → s.link.queue = [] ∨ s.link.reply.isSome = true →
    exec (.frameSent .control) s = .next (transmit { openJournal s with
      link := { s.link with sending := none, lastWasReply := src != .report } }))
  ∧ (∀ (src : TxSource) (f g : CtlFrame) (rest : List CtlFrame) (k : RequestKind) (s : State), s.live = true →
    s.link.sending = some (src, f) → src ≠ .reply ∨ s.link.resetAwaiting = false → s.link.reply = none →
    s.link.queue = g :: rest → g.kind = k.code → s.rxControl = .hunting →
    ∃ t, exec (.frameSent .control) s = .next t ∧ t.link.queue = rest
      ∧ (∃ out, t.link.Answers (replyTo k g.tag out))
      ∧ (rest = [] → exec (Instr.ofRequest k g.tag g.payload)
          { s with link := { s.link with queue := [], sending := none, lastWasReply := src != .report } } = .next t))
  ∧ ∀ (src : TxSource) (f g : CtlFrame) (rest : List CtlFrame) (s : State), s.live = true →
    s.link.sending = some (src, f) → src ≠ .reply ∨ s.link.resetAwaiting = false → s.link.reply = none →
    s.link.queue = g :: rest → RequestKind.ofByte g.kind = none →
    exec (.frameSent .control) s = .next (transmit { openJournal s with
      link := { s.link with
        queue := rest, sending := none, lastWasReply := src != .report, reply := some ⟨0xFF, g.tag, [0x01]⟩ } })
  )
  ∧ (
    (∀ s : State, s.live = true → (s.link.resetAwaiting && s.link.outstanding) = false →
    exec .linkBreak s = .next { openJournal s with
      link := { s.link with
        queue := [], reply := none, busy := none, sending := none, reports := []
        reportsLost := s.link.reportsLost || !s.link.reports.isEmpty, resetAwaiting := false }
      rxControl := .awaitMark })
  ∧ (∀ s : State, s.live = true → s.link.resetAwaiting = true → s.link.outstanding = true →
    ∃ t, exec .linkBreak s = .next t ∧ StartedUp .request s.part.straps s.acct t ∧ t.part.lineHigh = s.part.lineHigh)
  ∧ (∀ s : State, s.live = true → s.rxControl = .awaitMark →
    exec .returnToMark s = .next (transmit { openJournal s with rxControl := .hunting }))
  ∧ ∀ s : State, s.live = true → s.rxControl ≠ .awaitMark → exec .returnToMark s = .next (transmit (openJournal s))
  )

/-! ### Resets and power -/

/-- RESET is answered OK and the part goes on until that reply has been sent whole. A power-on, the release of RSTn and
the end of RESET's reply each set the part up as R171 to R173 state, from the levels its strap pins then have. That
start-up is divided between RSTn's two edges, and that POWER_ON on a powered part is a fresh power-on, is the model's
choice (log entry 23); how the straps come to their levels is log entry 11. -/
def Obligations.ResetsSetUpThePart : Prop :=
  (
    ∀ (tag : Byte) (s : State), s.ready = true → s.key = true →
    exec (.reset tag []) s =
      .next ({ openJournal s with link := { s.link with resetAwaiting := true } }.answered (replyTo .reset tag [0x00]))
  )
  ∧ (
    (∀ (x : Straps) (s : State), s.part.rstn = false →
    ∃ t, exec (.powerOn x) s = .next t ∧ StartedUp .powerOn x s.acct t ∧ t.part.lineHigh = s.part.lineHigh)
  ∧ (∀ (x : Straps) (s : State), s.part.powered = true → s.part.rstn = true → s.VolatileClear →
    ∃ t, exec (.rstnRelease x) s = .next t ∧ StartedUp s.part.lastReset x s.acct t
      ∧ t.part.lineHigh = s.part.lineHigh)
  ∧ ∀ (f : CtlFrame) (s : State), s.live = true → s.link.sending = some (.reply, f) → s.link.resetAwaiting = true →
    ∃ t, exec (.frameSent .control) s = .next t ∧ StartedUp .request s.part.straps s.acct t
      ∧ t.part.lineHigh = s.part.lineHigh
  )

/-- A supply that falls out of range and a falling RSTn find the accounting writes of the last step, in their order, up
to some point and none after it; RSTn then clears every volatile block (R170, R171, Table 73). That only writes of the
last step can be lost is the model's choice (log entry 22), as are POWER_ON with RSTn active (log entry 23), the pin
levels of a part that takes no event (log entry 11) and, in the cleared link, that no reply counts as the frame last sent
(log entry 8). -/
def Obligations.PowerLossKeepsAPrefixOfWrites : Prop :=
  (∀ (lost : Nat) (s : State), s.part.powered = true →
    ∃ a, exec (.powerFail lost) s =
        .next { s with acct := a, journal := [], part := { s.part with powered := false } }
      ∧ (lost = 0 → a = s.acct) ∧ (∀ b, 0 < lost → s.journal[lost]? = some b → a = b)
      ∧ (a = s.acct ∨ a ∈ s.journal))
  ∧ (∀ (lost : Nat) (s : State), s.part.powered = true → s.part.rstn = false →
    ∃ t, exec (.rstnActive lost) s = .next t ∧ t.VolatileClear ∧ t.link.rate = s.link.rate
      ∧ t.part = { s.part with rstn := true, lastReset := .rstn } ∧ t.fitted = s.fitted
      ∧ (∀ p, t.heads.get p = Channel.cleared
          (if s.fitted.get p then (if t.engaged p then .idle else .disengaged) else .unfitted))
      ∧ (lost = 0 → t.acct = s.acct) ∧ (∀ b, 0 < lost → s.journal[lost]? = some b → t.acct = b)
      ∧ (t.acct = s.acct ∨ t.acct ∈ s.journal) ∧ t.journal = [])
  ∧ (∀ (x : Straps) (s : State), s.part.rstn = true →
    ∃ t, exec (.powerOn x) s = .next t ∧ t.VolatileClear ∧ t.acct = s.acct
      ∧ t.part = { s.part with powered := true, lastReset := .powerOn, straps := x })
  ∧ ∀ (c : Instr) (s : State), s.live = false →
    (match c with
      | .powerOn _ => False | .powerFail _ => False | .rstnActive _ => False | .rstnRelease _ => False
      | .lineInputChange _ _ => False | _ => True) →
    exec c s = .next s

/-! ### Read-backs -/

/-- IDENT (R192), and COUNTS (R146): every value of the accounting memory it names, read at one moment, in the layout of
R201. The count of streams of a LOADED job, and a remaining quantity that is absent in IDLE alone, are the model's
choice (log entry 27). -/
def Obligations.IdentAndCountsShowTheirFields : Prop :=
  (
    ∀ (tag : Byte) (s : State), s.ready = true →
    AnswersOnly (.ident tag []) s (replyTo .ident tag
      ([0x00] ++ be16 630 ++ [3, plySetByte s.fitted] ++ (Ply.all.map fun p => flagByte (s.fitted.get p)) ++ [1]
        ++ be32 s.link.rate ++ be16 1024 ++ [64, 8, 32] ++ be16 256 ++ be16 256))
  )
  ∧ (
    ∀ (tag : Byte) (s : State), s.ready = true →
    AnswersOnly (.counts tag []) s (replyTo .counts tag
      ([0x00] ++ be32 s.acct.header.jobId ++ [byte s.jobState.code]
        ++ (s.acct.counters.toList.map fun c => be32 c.value).flatten
        ++ [byte (bitsByte ((s.acct.counters.toList.take 8).map Counter.saturated)),
            byte (bitsByte ((s.acct.counters.toList.drop 8).map Counter.saturated))]
        ++ (if s.jobState = .idle then be32 0xFFFFFFFF
            else be32 (s.scheme.quantity - s.acct.counters.setsRegular.value))
        ++ [byte (if s.acct.header.marks = [] then (if s.jobState = .loaded then s.scheme.streamCount else 0)
            else s.acct.header.marks.length)]
        ++ ((List.range 3).map fun k =>
            markField (s.acct.header.marks[k]?.map StreamMarks.alloc)
              ++ markField (s.acct.header.marks[k]?.map StreamMarks.retired) ++ numFieldOr s.acct.laneStarts[k]?).flatten
        ++ be16 s.acct.log.records.length ++ be32 s.acct.log.freed
        ++ [flagByte s.acct.log.low, byte s.acct.register.length]
        ++ ([EntryState.waiting, .inFlight, .doubt, .voidPending].map fun st =>
            byte (s.acct.register.countP fun e => e.state == st))
        ++ be16 (s.acct.rows.countP fun r => r.setIndex.isSome) ++ be16 (s.acct.rows.countP fun r => r.setIndex.isNone)
        ++ be32 s.acct.nextEntry))
  )

/-- STATUS: the 113 bytes of Table 96, each field at its offset, read at the moment the request is taken; the
reports-lost flag is cleared, and nothing else changes (R193, R191). -/
def Obligations.StatusShowsEveryBlock : Prop :=
  ∀ (tag : Byte) (s : State), s.ready = true → ∃ pl : List Byte,
    exec (.status tag []) s =
      .next ({ openJournal s with link := { s.link with reportsLost := false } }.answered (replyTo .status tag pl))
    ∧ pl.length = 113 ∧ fieldAt pl 0 1 = [0x00] ∧ fieldAt pl 1 1 = [byte s.jobState.code]
    ∧ fieldAt pl 2 1 = [match (if s.jobState = .hold then s.acct.header.savedReturn else none) with
        | some j => byte j.code
        | none => 0xFF]
    ∧ fieldAt pl 3 1 = [s.control.holds.byte] ∧ fieldAt pl 4 3 = s.control.stops.bytes
    ∧ fieldAt pl 7 1 = [flagByte (s.jobState == .hold || s.jobState == .recovery || s.control.stops.any)]
    ∧ fieldAt pl 8 1 = [byte s.part.lastReset.code]
    ∧ fieldAt pl 9 1 = [byte (bitsByte [s.lines.conditioned.prun, s.lines.conditioned.key, s.lines.conditioned.wbrk])]
    ∧ fieldAt pl 10 1 = [plySetByte s.lines.conditioned.spl]
    ∧ (∀ k i, StationId.all[k]? = some i →
        fieldAt pl (11 + 6 * k) 6 =
          [byte (s.tracker.get i).state.code, flagByte (s.tracker.get i).prevSkew] ++ be32 (s.tracker.get i).count)
    ∧ fieldAt pl 65 2 = be16 s.table.records.length ∧ fieldAt pl 67 5 = be40 s.table.frontier
    ∧ (∀ p : Ply, fieldAt pl (68 + 4 * p.number) 4 =
        [byte (s.heads.get p).state.code,
         if (s.heads.get p).state = .faulted then byte (FaultCause.code (s.heads.get p).cause) else 0,
         byte (s.heads.get p).code, byte (s.heads.get p).queue.length])
    ∧ fieldAt pl 96 4 =
        [byte s.reader.state.code, byte s.reader.queue.length, byte s.reader.readFail, byte s.reader.code]
    ∧ fieldAt pl 100 2 = [byte s.gate.spoilRun, flagByte s.gate.divert]
    ∧ fieldAt pl 102 6 = be32 ((s.acct.bundle.map OpenBundle.number).getD 0)
        ++ be16 ((s.acct.bundle.map OpenBundle.sets).getD 0)
    ∧ fieldAt pl 108 2 = [byte s.acct.manifests.length, flagByte s.acct.log.low]
    ∧ fieldAt pl 110 3 = [0, byte s.link.reports.length, flagByte s.link.reportsLost]

/-- ROW_READ (R59), MANIFEST_READ (R126), LOG_READ (R135) and REMAKE_READ (R142): RANGE outside their ranges, otherwise
what is held at the place asked for; nothing is removed. That REMAKE_READ shows the attempt limit of the definition as
held where no job is committed is the model's choice (log entry 32). -/
def Obligations.ReadBacksShowWhatIsHeld : Prop :=
  (
    ∀ (tag : Byte) (i : Nat) (s : State), s.ready = true → i ≤ Config.countTop →
    (∀ r, s.table.recordAt i = some r →
      AnswersOnly (.rowRead tag (be32 i)) s (replyTo .rowRead tag
        ([0x00] ++ be40 s.table.frontier ++ be16 s.table.records.length ++ r.view)))
    ∧ (∀ w, s.table.recordAt i = none → s.table.traceAt i = none → s.rowAt i = some w →
      AnswersOnly (.rowRead tag (be32 i)) s (replyTo .rowRead tag
        ([0x00] ++ be40 s.table.frontier ++ be16 s.table.records.length ++ w.view i)))
    ∧ (s.table.recordAt i = none → (s.table.traceAt i).isSome = true ∨ s.rowAt i = none →
      AnswersOnly (.rowRead tag (be32 i)) s (replyTo .rowRead tag
        ([0x08] ++ be40 s.table.frontier ++ be16 s.table.records.length)))
  )
  ∧ (
    (∀ (tag count start : Byte) (s : State), s.ready = true →
    if 1 ≤ count.toNat ∧ count.toNat ≤ 2 ∧ start.toNat ≤ 31 then
      let ms := s.acct.manifests.take count.toNat
      let es := (((ms.head?.map Manifest.exceptions).getD []).drop start.toNat).take 4
      AnswersOnly (.manifestRead tag [count, start]) s (replyTo .manifestRead tag
        ([0x00, byte s.acct.manifests.length, byte ms.length] ++ be32 ((ms.head?.map Manifest.jobId).getD 0)
          ++ (ms.map Manifest.headerBytes).flatten ++ [byte es.length] ++ (es.map BundleException.bytes).flatten))
    else AnswersOnly (.manifestRead tag [count, start]) s (replyTo .manifestRead tag [0x05]))
  ∧ (∀ (tag count : Byte) (position : Nat) (s : State), s.ready = true → position < 65536 →
    if position ≤ 1023 ∧ 1 ≤ count.toNat ∧ count.toNat ≤ 8 then
      let rs := (s.acct.log.records.drop position).take count.toNat
      AnswersOnly (.logRead tag (be16 position ++ [count])) s (replyTo .logRead tag
        ([0x00] ++ be16 s.acct.log.records.length ++ be32 s.acct.log.freed ++ [flagByte s.acct.log.low, byte rs.length]
          ++ (rs.map VoidRecord.bytes).flatten))
    else AnswersOnly (.logRead tag (be16 position ++ [count])) s (replyTo .logRead tag [0x05]))
  ∧ ∀ (tag position count : Byte) (s : State), s.ready = true →
    if position.toNat ≤ 63 ∧ 1 ≤ count.toNat ∧ count.toNat ≤ 6 then
      let es := (s.acct.register.drop position.toNat).take count.toNat
      AnswersOnly (.remakeRead tag [position, count]) s (replyTo .remakeRead tag
        ([0x00, byte s.acct.register.length]
          ++ ([EntryState.waiting, .inFlight, .doubt, .voidPending].map fun st =>
              byte (s.acct.register.countP fun e => e.state == st))
          ++ [byte s.policy.attemptLimit, byte es.length] ++ (es.map RemakeEntry.bytes).flatten))
    else AnswersOnly (.remakeRead tag [position, count]) s (replyTo .remakeRead tag [0x05])
  )

/-! ### Lines -/

/-- SET_LINES outside a run replaces all the settings at once; each line follows its new polarity and debounce; the
reply carries the settings (R15). -/
def Obligations.SetLinesReplacesTheSettings : Prop :=
  ∀ (tag : Byte) (x : LineSettings) (s : State), s.ready = true → s.key = true → s.jobState.inRun = false →
    (∀ p, (s.heads.get p).state.runs = false) → LegalInv s →
    AnswersNext (.setLines tag x.bytes) s (replyTo .setLines tag ([0x00] ++ x.bytes)) fun t =>
      t = { s with
        acct := { s.acct with lineSettings := x }
        lines := t.lines, link := t.link, control := t.control, rxControl := .hunting
        journal := [{ s.acct with lineSettings := x }, s.acct] }
      ∧ (∀ l, (t.lines.conditioned.get l, t.lines.pending.get l) =
          lineUnder (s.acct.lineSettings.lines.get l) (x.lines.get l) (s.part.lineHigh.get l)
            (s.lines.conditioned.get l) (s.lines.pending.get l))
      ∧ t.control.holds = s.control.holds
      ∧ ∀ c, t.control.stops.has c = (s.control.stops.has c
          || (c == .webBreak && t.lines.conditioned.wbrk && !s.lines.conditioned.wbrk))

/-- A line input that takes the level it has changes nothing. A change of asserted level begins timing under debounce,
or drops the change that was timing; with debounce off, and at DEBOUNCE_EXPIRED, the conditioned level follows the
asserted level, with its report and its consumer: WBRK active latches WEB_BREAK (R12, R13, R14). That the LINE report
stands before the STOP report of the same change is the model's choice (log entry 9); so are a line change of a part that
takes no event, and strap pins as inputs of LINE_INPUT_CHANGE, which nothing reads before the next reset (log entry 11;
R66, R180). -/
def Obligations.LineChangesAreConditioned : Prop :=
  (∀ (l : LineId) (s : State), s.live = true →
    exec (.lineInputChange (.line l) (s.part.lineHigh.get l)) s = .next (transmit (openJournal s)))
  ∧ (∀ (l : LineId) (high : Bool) (s : State), s.live = false →
    exec (.lineInputChange (.line l) high) s =
      .next { s with part := { s.part with lineHigh := s.part.lineHigh.set l high } })
  ∧ (∀ (x : InputPin) (high : Bool) (s : State), (∀ l, x ≠ .line l) →
    let strapped (t : State) : State := { t with part := { t.part with straps := Straps.withPin s.part.straps x high } }
    (s.live = true → exec (.lineInputChange x high) s = .next (transmit (strapped (openJournal s))))
      ∧ (s.live = false → exec (.lineInputChange x high) s = .next (strapped s)))
  ∧ (∀ (l : LineId) (high : Bool) (s : State), s.live = true → s.part.lineHigh.get l ≠ high →
    (high != (s.setting l).activeLow) = s.lines.conditioned.get l ∨ (s.setting l).debounce ≠ .off →
    exec (.lineInputChange (.line l) high) s = .next (transmit { openJournal s with
      part := { s.part with lineHigh := s.part.lineHigh.set l high }
      lines := { s.lines with
        pending := s.lines.pending.set l
          (if (high != (s.setting l).activeLow) = s.lines.conditioned.get l then none else some 0) } }))
  ∧ (∀ (l : LineId) (high : Bool) (s : State), s.live = true → s.part.lineHigh.get l ≠ high →
    (high != (s.setting l).activeLow) ≠ s.lines.conditioned.get l → (s.setting l).debounce = .off →
    s.lines.pending.get l = none →
    exec (.lineInputChange (.line l) high) s = exec (.debounceExpired l) { s with
      part := { s.part with lineHigh := s.part.lineHigh.set l high }
      lines := { s.lines with pending := s.lines.pending.set l (some 0) } })
  ∧ (∀ (l : LineId) (s : State), s.live = true → s.lines.pending.get l = none →
    exec (.debounceExpired l) s = .next (transmit (openJournal s)))
  ∧ ∀ (l : LineId) (e : Nat) (s : State), s.live = true → s.lines.pending.get l = some e →
    (∀ p, l = .spl p → s.asserted l = false ∨ (s.heads.get p).state.runs = false) →
    exec (.debounceExpired l) s = .next (transmit
      (let level := s.asserted l
       let reports := match l with
         | .prun => if s.acct.lineSettings.reportPrun then [lineReport 0 level] else []
         | .key => if s.acct.lineSettings.reportKey then [lineReport 1 level] else []
         | .wbrk => if s.acct.lineSettings.reportWbrk then [lineReport 2 level] else []
         | .spl _ => []
       let broken := l = .wbrk ∧ level = true ∧ s.control.stops.webBreak = false
       let stops := if broken then { s.control.stops with webBreak := true } else s.control.stops
       { openJournal s with
         lines := ⟨s.lines.conditioned.set l level, s.lines.pending.set l none⟩
         control := { s.control with stops := stops }
         link := (reports ++ if broken then [stopReport .webBreak stops] else []).foldl Link.addReport s.link }))

/-- SPLp becomes active on a running channel: the OPEN records from h − b to h are SPLICED on ply p, h being the index of
the station's last cue; each set of that window delivered already is handed to the gate unit as SUSPECT, in order of
index (what it then does with one: `BundlesCloseAndTakeSuspects`); and the after-count is raised to a (R79, R80, R120). -/
def Obligations.SpliceWindowMarksItsSets : Prop :=
  ∀ (p : Ply) (e d : Nat) (s : State), s.live = true → s.lines.pending.get (.spl p) = some e →
    s.asserted (.spl p) = true → (s.heads.get p).state.runs = true → RingInv s →
    (s.tracker.heads.get p).delay = some d →
    let g := s.acct.job.geometry
    let inWindow : Nat → Bool := fun i =>
      decide ((s.tracker.heads.get p).count ≤ i + 1 + d + g.beforeB ∧ i + 1 + d ≤ (s.tracker.heads.get p).count)
    ∃ t, exec (.debounceExpired (.spl p)) s = .next t
      ∧ t.table = s.table.rewrite (fun r => r.state == .opened && inWindow r.index) (fun r => r.updatePly p .spliced)
      ∧ t.heads = s.heads.set p { s.heads.get p with afterCount := max (s.heads.get p).afterCount g.afterA }
      ∧ t.tracker = s.tracker ∧ t.reader = s.reader ∧ t.control.stops = s.control.stops
      ∧ t.acct.counters = { s.acct.counters with suspect := t.acct.counters.suspect }
      ∧ ((∀ u ∈ s.table.traces, u.disposition = .delivered → inWindow u.index = false) →
          t = { openJournal s with
            lines := ⟨s.lines.conditioned.set (.spl p) true, s.lines.pending.set (.spl p) none⟩
            table := t.table, heads := t.heads, link := t.link })
      ∧ ∀ us : List Trace, us.Pairwise (fun a b => a.index < b.index) →
          (∀ u, u ∈ us ↔ u ∈ s.table.traces ∧ u.disposition = .delivered ∧ inWindow u.index = true) →
          Becomes (.debounceExpired (.spl p)) s
            (us.foldl (fun x u => takeSuspect u.index u.numbers (u.bundle.getD 0) false x) { openJournal s with
              lines := ⟨s.lines.conditioned.set (.spl p) true, s.lines.pending.set (.spl p) none⟩
              table := t.table, heads := t.heads })

/-! ### Numbers and the job definition -/

/-- Positions and numbers correspond one to one; a step moves the position by the step; issuing takes the next regular
number with its check and steps on; under MOD11S with step 1 at most one item is stepped past for each number issued
(R20, R21, R22, R29, R32). -/
def Obligations.NumbersStepAndIssue : Prop :=
  ∀ c : Scheme, c.inRange = true →
    (∀ p, p ≤ c.lastPos →
      c.posOf (c.numAt p) = p ∧ c.base ≤ (c.numAt p).serial ∧ (c.numAt p).serial < 10 ^ c.width
        ∧ (c.numAt p).series.isSome = c.seriesOn ∧ (∀ o, (c.numAt p).series = some o → o < 576)
        ∧ (c.markAfter (c.numAt p) = match c.dir with
            | .ascending => if p + c.stepK ≤ c.lastPos then .item (c.numAt (p + c.stepK)) else .atEnd
            | .descending => if c.stepK ≤ p then .item (c.numAt (p - c.stepK)) else .atEnd))
    ∧ (∀ n : Machine.Num, c.base ≤ n.serial → n.serial < 10 ^ c.width → n.series.isSome = c.seriesOn →
      (∀ o, n.series = some o → o < 576) →
      c.posOf n ≤ c.lastPos ∧ c.numAt (c.posOf n) = { n with check := c.checkOf n.serial })
    ∧ c.issue .atEnd = none
    ∧ (∀ n : Machine.Num, c.excluded n.serial = false →
      c.issue (.item n) = some ⟨{ n with check := c.checkOf n.serial }, 0, c.markAfter n⟩)
    ∧ ∀ p, p ≤ c.lastPos → c.excluded (c.numAt p).serial = true →
      (c.markAfter (c.numAt p) = .atEnd → c.issue (.item (c.numAt p)) = none)
      ∧ ∀ m, c.markAfter (c.numAt p) = .item m →
        c.issue (.item (c.numAt p)) = some ⟨m, 1, c.markAfter m⟩ ∧ (c.stepK = 1 → c.excluded m.serial = false)

/-- A definition request replaces its block whole in one write, returns a LOADED job to IDLE, discards its lane starts,
moves each fitted channel outside a run between IDLE and DISENGAGED, and answers with the block as it now stands
(R66, R153, R196). Two bytes of SET_SCHEME's answer are the model's choice: 0xFF as the check of a start number that
MOD11S excludes (log entry 18), and two spaces for a start series that is absent or, with series off, dropped (log
entry 28). -/
def Obligations.DefinitionRequestsReplaceTheirBlock : Prop :=
  let accepted : State → JobDef → State := fun s job =>
    let a := { s.acct with
      job := job
      header := { s.acct.header with jobState := .idle }
      laneStarts := if s.jobState = .loaded then [] else s.acct.laneStarts }
    { openJournal s with
      acct := a
      heads := PerPly.ofFn fun p =>
        if (s.heads.get p).state = .idle ∨ (s.heads.get p).state = .disengaged then
          { s.heads.get p with state := if job.geometry.engaged.get p then .idle else .disengaged }
        else s.heads.get p
      link := if s.jobState = .loaded then s.link.addReport (stateReport .idle .loaded s.control.holds) else s.link
      journal := [a, s.acct] }
  ∀ (tag : Byte) (pl : List Byte) (s : State), s.ready = true → s.key = true →
    (s.jobState = .idle ∨ s.jobState = .loaded) →
    (∀ g, formatOk .setGeometry pl = true → Geometry.ofPayload pl = some g →
      exec (.setGeometry tag pl) s = .next ((accepted s { s.acct.job with geometry := g }).answered
        (replyTo .setGeometry tag ([0x00, 0x00] ++ g.bytes))))
    ∧ (∀ c, formatOk .setScheme pl = true → Scheme.ofPayload pl = some c →
      let check : Byte := match c.checkOf c.startSerial with | none => 0xFF | some v => byte v
      exec (.setScheme tag pl) s = .next ((accepted s { s.acct.job with scheme := c }).answered
        (replyTo .setScheme tag ([0x00, 0x00] ++ c.bytes check))))
    ∧ (∀ p f, formatOk .setFormat pl = true → Format.ofPayload pl = some (p, f) →
      exec (.setFormat tag pl) s =
        .next ((accepted s { s.acct.job with formats := s.acct.job.formats.set p f }).answered
          (replyTo .setFormat tag ([0x00, 0x00] ++ f.bytes p))))
    ∧ ∀ q, formatOk .setPolicy pl = true → Policy.ofPayload pl = some q →
      exec (.setPolicy tag pl) s = .next ((accepted s { s.acct.job with policy := q }).answered
        (replyTo .setPolicy tag ([0x00, 0x00] ++ q.bytes)))

/-- COMMIT: in IDLE the definition is tested against the checks of Table 66 in order; the first that fails is answered
CONFLICT with its number; where all pass, the job is LOADED with its SPLIT lane starts held (R36, R37, R154). -/
def Obligations.CommitRunsTheConflictChecks : Prop :=
  ∀ (tag : Byte) (s : State), s.ready = true → s.key = true → s.jobState = .idle →
    let g := s.acct.job.geometry
    let c := s.scheme
    let needed := if c.mode = .rep then c.quantity else c.quantity * c.lanes
    let checks : List (Nat × Prop) :=
      [(1, (∃ p, g.engaged.get p = true) ∧ ∀ p, g.engaged.get p = true → s.fitted.get p = true),
       (2, g.readerV < g.gateG),
       (3, c.base ≤ c.startSerial ∧ (c.seriesOn = true → c.startSeries.isSome = true)),
       (4, c.method = .mod11s → c.stepK = 1 ∧ c.mode ≠ .split),
       (5, (s.policy.mask.lane1 = true → 1 ≤ c.lanes) ∧ (s.policy.mask.lane2 = true → 2 ≤ c.lanes)
          ∧ (s.policy.mask.lane3 = true → 3 ≤ c.lanes)),
       (6, c.method = .mod11s ∨ (match c.dir with
          | .ascending => c.startPos + (needed - 1) * c.stepK ≤ c.lastPos
          | .descending => (needed - 1) * c.stepK ≤ c.startPos))]
    let starts := if c.mode = .split then (List.range c.lanes).map fun j => c.numAt (match c.dir with
        | .ascending => c.startPos + j * c.quantity * c.stepK
        | .descending => c.startPos - j * c.quantity * c.stepK) else []
    (∀ before n p after, checks = before ++ (n, p) :: after → (∀ x ∈ before, x.2) → ¬ p →
      AnswersOnly (.commit tag []) s (replyTo .commit tag [0x06, byte n]))
    ∧ ((∀ x ∈ checks, x.2) →
      let a := { s.acct with header := { s.acct.header with jobState := .loaded }, laneStarts := starts }
      exec (.commit tag []) s = .next ({ openJournal s with
        acct := a
        link := s.link.addReport (stateReport .loaded .idle s.control.holds)
        journal := [a, s.acct] }.answered
          (replyTo .commit tag ([0x00, byte starts.length] ++ (starts.map numField).flatten))))

/-! ### Stations and cues -/

/-- A cue at a station out of the job does nothing. At a station in the job it raises that station's count, up to the
top value, and no other count; no cue moves a delay, and none but a marriage cue moves a station in or out of step
(R1, R2, R3, R7). -/
def Obligations.CuesCountAtTheirStation : Prop :=
  (∀ (x : StationId) (s : State), s.live = true →
    (s.jobState.inRun = false ∨ ∃ p, x = .head p ∧ (s.engaged p = false ∨ (s.heads.get p).state = .unfitted)) →
    Becomes (cueOf x) s (openJournal s))
  ∧ ∀ (x : StationId) (s : State), s.live = true → s.jobState.inRun = true →
    (∀ p, x = .head p → s.engaged p = true ∧ (s.heads.get p).state ≠ .unfitted) →
    ∃ t, exec (cueOf x) s = .next t
      ∧ (t.tracker.get x).count =
          (if (s.tracker.get x).count < 4294967295 then (s.tracker.get x).count + 1 else (s.tracker.get x).count)
      ∧ (∀ y, y ≠ x → (t.tracker.get y).count = (s.tracker.get y).count)
      ∧ (∀ y, (t.tracker.get y).delay = (s.tracker.get y).delay)
      ∧ (x ≠ .marriage → t.jobState.inRun = true → ∀ y, (t.tracker.get y).state = (s.tracker.get y).state
          ∧ (t.tracker.get y).prevSkew = (s.tracker.get y).prevSkew)

/-- At a marriage cue every ALIGNED station but M is checked against the raised marriage count, or the held one at the top
value (R2): it becomes SKEWED at a skew of 2 or more, or at any skew with its previous-skew flag set, and its flag then
tells whether the skew was not 0; stations not ALIGNED are not checked (R7). Each station that becomes SKEWED has its stop
cause latched (R8); what its owning block does then is `MarriageCueMarksTheSet`. -/
def Obligations.MarriageCueChecksTheStations : Prop :=
  ∀ s : State, s.live = true → s.jobState.inRun = true →
    ∃ t, exec .marriageCue s = .next t
      ∧ t.tracker.marriage = { s.tracker.marriage with count := s.nextMarriage }
      ∧ (∀ x, x ≠ .marriage → (s.tracker.get x).state ≠ .aligned → t.tracker.get x = s.tracker.get x)
      ∧ (∀ x, x ≠ .marriage → (s.tracker.get x).state = .aligned →
          let skew : Int := ((s.tracker.get x).count : Int) - s.nextMarriage
          t.tracker.get x = { s.tracker.get x with
            state := if 2 ≤ skew.natAbs ∨ (skew ≠ 0 ∧ (s.tracker.get x).prevSkew = true) then .skewed else .aligned
            prevSkew := decide (skew ≠ 0) })
      ∧ ∀ c, t.control.stops.has c = (s.control.stops.has c || (match c with
          | .skew p => s.loses (.head p)
          | .readerSkew => s.loses .reader
          | .gateSkew => s.loses .gate
          | _ => false))

/-- The rest of a marriage cue: a head channel whose station becomes SKEWED is FAULTED and its ply swept; the set of the
cue is marked MARRIED, or SKEWED where a head station has just lost step; the reader is suspended and DIVERT asserted
where their stations have; each such station's stop cause is latched and reported (`latch`, which `CausesAreRaisedOnce`
gives), and nothing else changes (R8, R54, R55, R81, R86, R101, R115). The order of those reports, head 1 to 6, V, G, is
the model's choice (log entry 9). -/
def Obligations.MarriageCueMarksTheSet : Prop :=
  ∀ (i : Int) (s : State), CueCarries .marriage i s →
    ∃ t, exec .marriageCue s = .next t
      ∧ t = { openJournal s with
          tracker := t.tracker, control := t.control, link := t.link
          table := s.table.rewrite (fun r => r.state == .opened) (fun r => { r with
            plies := PerPly.ofFn fun p =>
              if s.loses (.head p) ∧ r.marriage = .notYet
                  ∧ (r.plies.get p = some .loaded ∨ r.plies.get p = some .printed) then some .skewed
              else r.plies.get p
            marriage :=
              if (r.index : Int) = i then
                (if Ply.all.any fun p => s.loses (.head p) then .skewed
                  else if r.marriage = .notYet then .married else r.marriage)
              else r.marriage })
          heads := PerPly.ofFn fun p =>
            if s.loses (.head p) ∧ ((s.heads.get p).state = .leadIn ∨ (s.heads.get p).state = .numbering) then
              { s.heads.get p with state := .faulted, cause := some .skew }
            else s.heads.get p
          reader :=
            if s.loses .reader ∧ s.reader.state = .reading then { s.reader with state := .skewed, queue := [] }
            else s.reader
          gate := { s.gate with divert := s.gate.divert || s.loses .gate } }
      ∧ (let latched : List StopCause :=
          ((Ply.all.filter fun p => s.loses (.head p)).map StopCause.skew)
            ++ (if s.loses .reader then [.readerSkew] else []) ++ (if s.loses .gate then [.gateSkew] else [])
        let u := latched.foldl (fun x c => latch c x) (openJournal s)
        t.control = u.control ∧ t.link = u.link.choose)

/-! ### Heads -/

/-- A head cue with index s 0 or above, taken in LEAD_IN or NUMBERING with no load timing out: the loads age; the
after-count falls and marks the record SPLICED; then blank, a LOAD with the next free tag, or an overrun
(R69, R72, R73, R74, R80). Below 0 nothing is sent. -/
def Obligations.HeadCueLoadsTheSet : Prop :=
  ∀ (p : Ply) (i : Int) (s : State), CueCarries (.head p) i s →
    (∀ l ∈ (s.heads.get p).aged, l.age < s.acct.job.geometry.timeoutT) →
    let ch := s.heads.get p
    let cued : Channel := { ch with state := .numbering, queue := ch.aged, afterCount := ch.afterCount - 1 }
    (i < 0 → ch.state = .leadIn →
      Becomes (.headCue p) s { openJournal s with
        tracker := s.cued (.head p), heads := s.heads.set p { ch with afterCount := ch.afterCount - 1 } })
    ∧ (ch.state = .numbering ∨ (ch.state = .leadIn ∧ 0 ≤ i) →
      (i < 0 ∨ (i < s.table.frontier ∧ s.table.openAt i.toNat = none) →
        Becomes (.headCue p) s { openJournal s with
          tracker := s.cued (.head p), heads := s.heads.set p cued })
      ∧ ∀ r, 0 ≤ i → s.table.openAt i.toNat = some r →
        let spliced := if 0 < ch.afterCount then s.table.ply p (· == i.toNat) .spliced else s.table
        (ch.queue.length < 2 → ch.tagCounter < 4 →
          let tag := if ch.queue.any fun l => l.tag == ch.tagCounter then (ch.tagCounter + 1) % 4 else ch.tagCounter
          Becomes (.headCue p) s { openJournal s with
            tracker := s.cued (.head p)
            table := spliced.ply p (· == i.toNat) .loaded
            heads := s.heads.set p { cued with queue := ch.aged ++ [⟨tag, i.toNat, 0⟩], tagCounter := (tag + 1) % 4 }
            headTx := s.headTx.set p (s.headTx.get p ++ [s.loadOf p tag r.numbers]) })
        ∧ (2 ≤ ch.queue.length →
          Becomes (.headCue p) s { openJournal s with
            tracker := s.cued (.head p)
            table := spliced.ply p (· == i.toNat) .skipped
            heads := s.heads.set p cued }))

/-- LOAD_TIMEOUT, and the head cue at which a load reaches T: the loads that have reached it leave the queue and their
sets are LATE; a channel in NUMBERING is FAULTED with cause TIMEOUT and HEAD_FAULT latched; in FAULTED the cue's record
is marked FAULTED (R73, R75, R80). That LOAD_TIMEOUT is the timeout step without the ageing of a cue is the model's
choice (log entry 7). -/
def Obligations.LateLoadsFaultTheChannel : Prop :=
  (∀ (p : Ply) (s : State), s.live = true →
    let ch := s.heads.get p
    let due := ch.queue.filter fun l => decide (s.acct.job.geometry.timeoutT ≤ l.age)
    let kept := ch.queue.filter fun l => decide (l.age < s.acct.job.geometry.timeoutT)
    let table := s.table.ply p (fun i => due.any fun l => l.index == i) .late
    (due = [] → Becomes (.loadTimeout p) s (openJournal s))
    ∧ (due ≠ [] → ch.state = .numbering →
      Becomes (.loadTimeout p) s (latch (.headFault p) { openJournal s with
        table := table
        heads := s.heads.set p { ch with state := .faulted, cause := some .timeout, queue := kept } }))
    ∧ (due ≠ [] → ch.state = .faulted →
      Becomes (.loadTimeout p) s { openJournal s with
        table := table, heads := s.heads.set p { ch with queue := kept } }))
  ∧ ∀ (p : Ply) (i : Int) (s : State), CueCarries (.head p) i s → RingInv s →
    let ch := s.heads.get p
    let due := ch.aged.filter fun l => decide (s.acct.job.geometry.timeoutT ≤ l.age)
    let kept := ch.aged.filter fun l => decide (l.age < s.acct.job.geometry.timeoutT)
    let late := s.table.ply p (fun i => due.any fun l => l.index == i) .late
    let spliced := if 0 < ch.afterCount then late.ply p (fun j => (j : Int) == i) .spliced else late
    let table := spliced.ply p (fun j => (j : Int) == i) .faulted
    (i < s.table.frontier ∨ 0 ≤ i ∧ (s.table.openAt i.toNat).isSome = true) →
    (ch.state = .numbering → due ≠ [] →
      Becomes (.headCue p) s (latch (.headFault p) { openJournal s with
        tracker := s.cued (.head p), table := table
        heads := s.heads.set p { ch with
          state := .faulted, cause := some .timeout, queue := kept, afterCount := ch.afterCount - 1 } }))
    ∧ (ch.state = .faulted →
      Becomes (.headCue p) s { openJournal s with
        tracker := s.cued (.head p), table := table
        heads := s.heads.set p { ch with queue := kept, afterCount := ch.afterCount - 1 } })

/-- The first cue for an index, at an ALIGNED station with room in the ring: the oldest WAITING remake entry is
allocated, or else regular numbers, or the set is a run-out blank; an exhausted stream puts the job in HOLD. The
frontier passes the index. Shown on a channel in NUMBERING with nothing outstanding, which loads the new record. From a
SKEWED station the frontier stays; at the lap limit it moves to the limit at most (R34, R45 to R50, R160). -/
def Obligations.HeadCueAllocatesTheSet : Prop :=
  (
    ∀ (p : Ply) (i : Nat) (s : State), CueCarries (.head p) i s → RingInv s →
    (s.tracker.heads.get p).state = .aligned → s.table.frontier ≤ i →
    (∀ r ∈ s.table.records, i < r.index + 256) → (s.heads.get p).state = .numbering →
    (s.heads.get p).queue = [] → (s.heads.get p).afterCount = 0 → (s.heads.get p).tagCounter < 4 →
    let ch := s.heads.get p
    let fresh (kind : SetKind) (ns : List Machine.Num) (entry : Option Nat) (attempt : Nat) : SetRecord :=
      { index := i, kind := kind, numbers := ns, entry := entry, attempt := attempt
        plies := PerPly.ofFn fun q => if q = p then some .loaded else if s.engaged q then some .waiting else none
        marriage := .notYet, verification := if s.policy.verify then .notYet else .off
        hostCull := false, state := .opened, pendingCause := none }
    let loaded (r : SetRecord) : State :=
      { openJournal s with
        tracker := s.cued (.head p)
        table := ⟨putSlot (.record r) s.table.slots, i + 1⟩
        heads := s.heads.set p { ch with queue := [⟨ch.tagCounter, i, 0⟩], tagCounter := (ch.tagCounter + 1) % 4 }
        headTx := s.headTx.set p (s.headTx.get p ++ [s.loadOf p ch.tagCounter r.numbers]) }
    let blank : State := { openJournal s with tracker := s.cued (.head p), table := { s.table with frontier := i + 1 } }
    (∀ before e after, s.jobState = .running ∨ s.jobState = .draining → s.acct.register = before ++ e :: after →
      e.state = .waiting → (∀ x ∈ before, x.state ≠ .waiting) → (∀ x ∈ before ++ after, x.number ≠ e.number) →
      let a := { s.acct with
        register := before ++ { e with state := .inFlight, setIndex := some i } :: after
        counters := { s.acct.counters with setsRemake := s.acct.counters.setsRemake.raise 1 } }
      Becomes (.headCue p) s { loaded (fresh .remake e.numbers (some e.number) (e.attempts + 1)) with
        acct := a, journal := [a, s.acct] })
    ∧ ((∀ x ∈ s.acct.register, x.state ≠ .waiting) →
      (s.jobState = .running → s.acct.counters.setsRegular.value < s.scheme.quantity →
        (∀ ns ex ms, s.scheme.issueSet (s.acct.header.marks.map StreamMarks.alloc) = some (ns, ex, ms) →
          let counters := { s.acct.counters with
            issued := s.acct.counters.issued.raise ns.length
            excluded := s.acct.counters.excluded.raise ex
            setsRegular := s.acct.counters.setsRegular.raise 1 }
          let last := decide (s.scheme.quantity ≤ counters.setsRegular.value)
          let a := { s.acct with
            counters := counters
            header := { s.acct.header with
              jobState := if last then .draining else .running
              marks := (s.acct.header.marks.zip ms).map fun x => { x.1 with alloc := x.2 } } }
          Becomes (.headCue p) s { loaded (fresh .regular ns none 0) with
            acct := a, journal := [a, s.acct]
            link := if last then s.link.addReport (stateReport .draining .running s.control.holds) else s.link })
        ∧ (s.scheme.issueSet (s.acct.header.marks.map StreamMarks.alloc) = none →
          let a := { s.acct with header := { s.acct.header with jobState := .hold, savedReturn := some .running } }
          let holds := s.control.holds.put .exhausted true
          Becomes (.headCue p) s (latch .exhausted { blank with
            acct := a, journal := [a, s.acct], control := { s.control with holds := holds }
            link := s.link.addReport (stateReport .hold .running holds) })))
      ∧ (s.jobState = .draining ∨ (s.jobState = .running ∧ s.scheme.quantity ≤ s.acct.counters.setsRegular.value) →
        Becomes (.headCue p) s blank))
    ∧ (s.jobState = .hold → Becomes (.headCue p) s blank)
  )
  ∧ (
    ∀ (p : Ply) (i : Nat) (s : State), CueCarries (.head p) i s → s.table.frontier ≤ i → s.table.openAt i = none →
    (s.heads.get p).state = .numbering → (s.heads.get p).queue = [] → (s.heads.get p).afterCount = 0 →
    ((s.tracker.heads.get p).state = .skewed →
      Becomes (.headCue p) s { openJournal s with tracker := s.cued (.head p) })
    ∧ ∀ low ∈ s.table.records, (s.tracker.heads.get p).state = .aligned → (∀ r ∈ s.table.records, low.index ≤ r.index) →
      low.index + 256 ≤ i →
      Becomes (.headCue p) s { openJournal s with
        tracker := s.cued (.head p)
        table := { s.table with frontier := max s.table.frontier (low.index + 256) } }
  )

/-- DONE, HEADFAULT and a malformed message, in each state of the channel (R67, R68, R76, R77, R78). -/
def Obligations.HeadMessagesEndLoads : Prop :=
  ∀ (p : Ply) (s : State), s.live = true →
    let ch := s.heads.get p
    let s0 : State := { openJournal s with rxHead := s.rxHead.set p .hunting }
    let dropped : SetTable := s.table.ply p (fun i => ch.queue.any fun l => l.index == i) .faulted
    let protocol : State := latch (.headFault p) { s0 with
      table := dropped, heads := s.heads.set p { ch with state := .faulted, cause := some .protocol, queue := [] } }
    (∀ (tag outcome : Byte), tag.toNat ≤ 3 → outcome.toNat ≤ 1 →
      (ch.state = .idle ∨ ch.state = .disengaged ∨ ch.state = .unfitted → Becomes (.done p tag outcome) s s0)
      ∧ ((∀ l ∈ ch.queue, l.tag ≠ tag.toNat) →
        (ch.state = .leadIn ∨ ch.state = .numbering → Becomes (.done p tag outcome) s protocol)
        ∧ (ch.state = .faulted → Becomes (.done p tag outcome) s s0))
      ∧ ∀ before l after, ch.queue = before ++ l :: after → l.tag = tag.toNat →
        (∀ x ∈ before ++ after, x.tag ≠ tag.toNat) → ch.state.runs = true →
        Becomes (.done p tag outcome) s { s0 with
          table := s.table.ply p (· == l.index) (if outcome = 1 then .misfire else .printed)
          heads := s.heads.set p { ch with queue := before ++ after } })
    ∧ (∀ code : Byte, code ≠ 0 →
      (ch.state.runs = true →
        Becomes (.headfault p code) s (latch (.headFault p) { s0 with
          table := dropped
          heads := s.heads.set p { ch with
            state := .faulted, cause := if ch.state = .faulted then ch.cause else some .head
            code := code.toNat, queue := [] } }))
      ∧ (ch.state.runs = false → Becomes (.headfault p code) s s0))
    ∧ ∀ (kind : Byte) (pl : List Byte), HeadMessage.ofFrame kind pl = none →
      (ch.state = .leadIn ∨ ch.state = .numbering → Becomes (.headMalformedMessage p kind pl) s protocol)
      ∧ (ch.state ≠ .leadIn → ch.state ≠ .numbering → Becomes (.headMalformedMessage p kind pl) s s0)

/-! ### The reader -/

/-- A reader cue: ignored while the reader is suspended; in READING it suspends the reader as LAGGING where four entries
wait or the count is held, and otherwise queues an entry by the table's answer (R91). -/
def Obligations.ReaderCueQueuesAnEntry : Prop :=
  (∀ (i : Int) (s : State), CueCarries .reader i s →
    let cued : State := { openJournal s with tracker := s.cued .reader }
    let entry : ReaderEntry :=
      if i < 0 then ⟨i, .blank, none⟩
      else match s.lookup i.toNat with
        | .none => ⟨i, .blank, none⟩
        | .opened _ => ⟨i, .set, none⟩
        | .retired t => ⟨i, .set, some ⟨t.disposition, t.numbers, t.bundle⟩⟩
        | .pending ns _ => ⟨i, .set, some ⟨.culled, ns, none⟩⟩
    (s.reader.state.suspended = true → Becomes .readerCue s cued)
    ∧ (s.reader.state = .reading → s.reader.queue.length < 4 →
      Becomes .readerCue s { cued with reader := { s.reader with queue := s.reader.queue ++ [entry] } })
    ∧ (s.reader.state = .reading → 4 ≤ s.reader.queue.length →
      Becomes .readerCue s (latch .readerFault { cued with reader := { s.reader with state := .lagging, queue := [] } })))
  ∧ ∀ s : State, s.live = true → s.jobState.inRun = true → 4294967295 ≤ s.tracker.reader.count →
    s.reader.state = .reading →
    Becomes .readerCue s
      (latch .readerFault { openJournal s with reader := { s.reader with state := .lagging, queue := [] } })

/-- RESULT: ignored outside READING; a stray one suspends the reader; otherwise the oldest entry leaves the queue, and
the result is discarded, or joins the OPEN record's verification, or is late for a delivered set, in which case a
result that is no MATCH is SUSPECT. Compared results reach the read-fail monitor. READERFAULT records its code in every
state, and suspends a reader in READING, as a malformed message does (R89, R92, R93, R96 to R98, R100). That the read-fail
monitor takes a late failure before the gate unit takes the SUSPECT is the model's choice (log entry 9). -/
def Obligations.ReaderMessagesAreTaken : Prop :=
  (
    ∀ (lanes : List LaneEntry) (s : State), s.live = true → s.resultOk lanes →
    let c : Instr := .result (resultPayload lanes)
    let s0 : State := { openJournal s with rxReader := .hunting }
    (s.reader.state ≠ .reading → Becomes c s s0)
    ∧ (s.reader.state = .reading → s.reader.queue = [] →
      Becomes c s (latch .readerFault { s0 with reader := { s.reader with state := .faulted } }))
    ∧ ∀ e rest, s.reader.state = .reading → s.reader.queue = e :: rest →
      let s1 : State := { s0 with reader := { s.reader with queue := rest } }
      (e.kind = .blank ∨ s.policy.verify = false ∨ (∃ n, e.note = some n ∧ n.disposition = .culled)
          ∨ (e.note = none ∧ ∀ i : Nat, e.index = i → s.table.openAt i = none) → Becomes c s s1)
      ∧ ∀ i : Nat, e.kind = .set → e.index = i → s.policy.verify = true →
        (∀ r, e.note = none → s.table.openAt i = some r →
          let v := s.setResult i r.numbers lanes
          Becomes c s (readFailEvent v.failure { s1 with
            table := s.table.rewrite (fun x => x.state == .opened && x.index == i)
              (fun x => { x with verification := x.verification.update v }) }))
        ∧ ∀ n, e.note = some n → n.disposition = .delivered →
          Becomes c s
            (if s.setResult i n.numbers lanes = .matched then readFailEvent false s1
              else takeSuspect i n.numbers (n.bundle.getD 0) true (readFailEvent true s1))
  )
  ∧ (
    ∀ s : State, s.live = true →
    let s0 : State := { openJournal s with rxReader := .hunting }
    (∀ code : Byte, code ≠ 0 →
      (s.reader.state = .reading →
        Becomes (.readerfault code) s (latch .readerFault { s0 with
          reader := { s.reader with state := .faulted, queue := [], code := code.toNat } }))
      ∧ (s.reader.state ≠ .reading →
        Becomes (.readerfault code) s { s0 with reader := { s.reader with code := code.toNat } }))
    ∧ ∀ (kind : Byte) (pl : List Byte), ReaderMessage.ofFrame s.scheme.lanes kind pl = none →
      (s.reader.state = .reading →
        Becomes (.readerMalformedMessage kind pl) s (latch .readerFault { s0 with
          reader := { s.reader with state := .faulted, queue := [] } }))
      ∧ (s.reader.state ≠ .reading → Becomes (.readerMalformedMessage kind pl) s s0)
  )

/-- Comparing a lane: NOREAD, MATCH, or MISMATCH at the first differing position, with its slip class; and the set's
result, the worst of its masked lanes, the lowest lane that mismatches being recorded, which goes to the OPEN record and
to the read-fail monitor (R94, R95, R96). Ply 1's string is composed whether or not ply 1 is engaged: the model's choice
(log entry 5). -/
def Obligations.ReadsAreCompared : Prop :=
  ∀ (s : State) (i : Int) (ns : List Machine.Num),
    let want (ms : List Machine.Num) (lane : Nat) : List Byte := laneString s.scheme (s.acct.job.formats.get .ply1) ms lane
    (∀ lane : Nat, s.laneOutcome i ns lane none = .noread
      ∧ ∀ str : List Byte,
        (str = want ns lane → s.laneOutcome i ns lane (some str) = .matched)
        ∧ ∀ pos : Nat, (∀ k, k < pos → str[k]? = (want ns lane)[k]?) → str[pos]? ≠ (want ns lane)[pos]? →
          ∃ cls, s.laneOutcome i ns lane (some str) = .mismatch lane (pos + 1) cls
            ∧ (let behind := ∃ ms, (s.lookupInt (i - 1)).heldNumbers = some ms ∧ str = want ms lane
               let ahead := ∃ ms, (s.lookupInt (i + 1)).heldNumbers = some ms ∧ str = want ms lane
               (behind → cls = .slipBehind) ∧ (¬ behind → ahead → cls = .slipAhead)
                 ∧ (¬ behind → ¬ ahead → cls = .digits)))
    ∧ (∀ lanes : List LaneEntry,
      let outs := (List.range lanes.length).filterMap fun k =>
        if s.policy.mask.has (k + 1) then lanes[k]?.map fun e => s.laneOutcome i ns (k + 1) e else none
      (∀ before l p cls after, outs = before ++ .mismatch l p cls :: after →
        (∀ x ∈ before, x = .matched ∨ x = .noread) → s.setResult i ns lanes = .mismatch l p cls)
      ∧ ((∀ x ∈ outs, x = .matched ∨ x = .noread) →
        s.setResult i ns lanes = if .noread ∈ outs then .noread else .matched))
    ∧ ∀ (lanes : List LaneEntry) (e : ReaderEntry) (rest : List ReaderEntry) (j : Nat) (r : SetRecord), s.live = true →
      s.resultOk lanes → s.reader.state = .reading → s.policy.verify = true → s.reader.queue = e :: rest →
      e.kind = .set → e.note = none → e.index = j → s.table.openAt j = some r →
      let v := s.setResult j r.numbers lanes
      Becomes (.result (resultPayload lanes)) s (readFailEvent v.failure { openJournal s with
        rxReader := .hunting, reader := { s.reader with queue := rest }
        table := s.table.rewrite (fun x => x.state == .opened && x.index == j)
          (fun x => { x with verification := x.verification.update v }) })

/-! ### The gate and the bundle builder -/

/-- The gate's decision: delivered exactly where R107 says so, otherwise culled with the first cause of Table 46
(R107, R108). -/
def Obligations.GateDecidesByTheRanking : Prop :=
  ∀ (skewed : Bool) (u : UnverifiedPolicy) (r : SetRecord),
    (cullCause skewed u r = none ↔
      r.hostCull = false ∧ skewed = false ∧ (∀ p st, r.plies.get p = some st → st = .printed)
        ∧ r.marriage = .married
        ∧ (r.verification = .matched ∨ r.verification = .off ∨ (r.verification = .notYet ∧ u = .deliver)))
    ∧ (r.hostCull = true → cullCause skewed u r = some .hostCull)
    ∧ (r.hostCull = false →
      (skewed = true → cullCause skewed u r = some .gateSkew)
      ∧ (skewed = false →
        (∀ p st, r.plies.get p = some st → st ≠ .printed →
          (∀ q, q.number < p.number → r.plies.get q = none ∨ r.plies.get q = some .printed) →
          cullCause skewed u r = some (match st with
            | .misfire => .misfire | .skipped => .skipped | .late => .late | .faulted => .faulted
            | .spliced => .spliced | .skewed => .skewed
            | .waiting => .unfinished | .loaded => .unfinished | .printed => .unfinished))
        ∧ ((∀ p st, r.plies.get p = some st → st = .printed) →
          (r.marriage = .skewed → cullCause skewed u r = some .marriageSkew)
          ∧ (r.marriage = .notYet → cullCause skewed u r = some .unmarried)
          ∧ (r.marriage = .married →
            (∀ l p cls, r.verification = .mismatch l p cls → cullCause skewed u r = some .mismatch)
            ∧ (r.verification = .noread → cullCause skewed u r = some .noread)
            ∧ (r.verification = .notYet → u = .cull → cullCause skewed u r = some .unverified)))))

/-- A gate cue retires every OPEN record at or below its index, each once and none above it; those passed over leave
DIVERT to the cue's own form. With nothing to retire it diverts waste: SETS_WASTE rises, DIVERT is asserted, nothing
else changes (R2, R105, R106, R109, R114). That a passed-over record with the host's mark is culled HOST_CULL (R108,
Table 46), where R106 names GATE_SKEW for the passed-over, is the model's choice (log entry 14). -/
def Obligations.GateCueRetiresUpToItsIndex : Prop :=
  (
    ∀ s : State, s.live = true → s.jobState.inRun = true →
    let a := { s.acct with counters := { s.acct.counters with setsWaste := s.acct.counters.setsWaste.raise 1 } }
    let wasted (t : Tracker) : State :=
      { openJournal s with tracker := t, acct := a, journal := [a, s.acct], gate := { s.gate with divert := true } }
    (∀ i, CueCarries .gate i s → (∀ r ∈ s.table.records, r.state = .opened → i ≤ r.index) →
      (∀ n : Nat, i = n → s.table.openAt n = none) → Becomes .gateCue s (wasted (s.cued .gate)))
    ∧ (4294967295 ≤ s.tracker.gate.count → Becomes .gateCue s (wasted s.tracker))
  )
  ∧ (
    ∀ (i : Nat) (s : State), CueCarries .gate i s → RingInv s →
    let due := (s.table.records.filter fun r => r.state == .opened && decide (r.index ≤ i)).length
    s.acct.counters.setsCulled.value + due ≤ 99999999 → s.acct.counters.setsDelivered.value + due ≤ 99999999 →
    ∃ t, exec .gateCue s = .next t
      ∧ (t.table.records.filter fun r => r.state == .opened) =
          (s.table.records.filter fun r => r.state == .opened && decide (i < r.index))
      ∧ t.acct.counters.setsCulled.value + t.acct.counters.setsDelivered.value =
          s.acct.counters.setsCulled.value + s.acct.counters.setsDelivered.value + due
      ∧ t.table.frontier = s.table.frontier
      ∧ (s.table.openAt i = none → t.gate.divert = true)
      ∧ (∀ r, s.table.openAt i = some r → t.jobState.inRun = true →
          t.gate.divert = (cullCause (s.tracker.gate.state == .skewed) s.policy.unverified r).isSome)
      ∧ (LedgerInv s → ∀ r ∈ s.table.records, r.state = .opened → r.index < i →
          let cause : VoidCause := if r.hostCull then .hostCull else .gateSkew
          let voided (why : VoidCause) (attempts : Nat) (exhausted : Bool) : Prop :=
            ∀ x ∈ s.scheme.withLanes r.numbers,
              (⟨x.1, x.2, why, some r.index, attempts, exhausted, none⟩ : VoidRecord) ∈ t.acct.log.records
          let voidedOrHeld (why : VoidCause) : Prop :=
            voided why 0 false ∨ ⟨some r.index, s.scheme.withLanes r.numbers, why, 0, false⟩ ∈ t.acct.rows
          (r.kind = .regular →
            (s.policy.cullPolicy = .void → voidedOrHeld cause)
            ∧ (s.policy.cullPolicy = .remake →
              (∃ n, s.acct.nextEntry ≤ n ∧ ⟨n, r.numbers, 0, cause, .waiting, none, none, false⟩ ∈ t.acct.register)
                ∨ (64 < s.acct.register.length + due ∧ voidedOrHeld .remakeFull)))
          ∧ (r.kind = .remake → ∃ e ∈ s.acct.register, r.entry = some e.number
            ∧ (r.attempt < s.policy.attemptLimit →
              { e with
                attempts := r.attempt, state := .waiting, setIndex := none, pendingCause := none
                exhausted := false } ∈ t.acct.register)
            ∧ (s.policy.attemptLimit ≤ r.attempt →
              voided cause r.attempt true
                ∨ { e with
                    attempts := r.attempt, state := .voidPending, setIndex := some r.index, pendingCause := some cause
                    exhausted := true } ∈ t.acct.register)))
  )

/-- A delivered set: the counters, the trace, the marks or the remake entry, the bundle, the retire note, the spoil-run
value and DIVERT, and nothing else (R44, R99, R107, R109, R110, R113, R114, R118, R119). In general the bundle then
closes where this set makes it reach a close or a pending close finds room (`closeAtRetirement`, which
`BundlesCloseAndTakeSuspects` gives), the marks pass a jump range that begins where they come to rest (R169), the
completion check follows (`CompletionCheckEndsTheJob`), and a queue of manifests that has become full is reported (R113,
R121, R122, R125, R161). -/
def Obligations.GateDeliversTheSet : Prop :=
  (
  ∀ (i : Nat) (r : SetRecord) (b : OpenBundle) (s : State), GateAt i r b s →
    cullCause (s.tracker.gate.state == .skewed) s.policy.unverified r = none →
    let counters := { s.acct.counters with
      delivered := s.acct.counters.delivered.raise r.numbers.length
      setsDelivered := s.acct.counters.setsDelivered.raise 1 }
    let after (a : Accounting) : State :=
      { openJournal s with
        tracker := s.cued .gate
        table := ⟨putSlot (.trace ⟨i, .delivered, r.numbers, some b.number⟩) s.table.slots, s.table.frontier⟩
        reader := s.reader.noted i ⟨.delivered, r.numbers, some b.number⟩
        gate := { s.gate with divert := false, spoilRun := 0 }
        acct := a, journal := [a, s.acct] }
    (r.kind = .regular → s.acct.header.fits s.scheme r.numbers →
      Becomes .gateCue s (after { s.acct with
        counters := counters
        header := s.acct.header.passed s.scheme r.numbers
        bundle := some { b with
          sets := b.sets + 1
          firsts := (List.range b.firsts.length).map fun j =>
            (b.firsts.getD j none).or (s.scheme.laneNumber r.numbers (j + 1))
          lasts := (List.range b.lasts.length).map fun j =>
            (s.scheme.laneNumber r.numbers (j + 1)).or (b.lasts.getD j none) } }))
    ∧ (r.kind = .remake →
      Becomes .gateCue s (after { s.acct with
        counters := counters
        register := s.acct.register.filter fun e => e.number != r.entry.getD 0
        bundle := some { b with
          sets := b.sets + 1
          exceptions := b.exceptions ++ [⟨.remade, i, r.numbers, .delivered⟩] } }))
  )
  ∧ (
  ∀ (i : Nat) (r : SetRecord) (b : OpenBundle) (s : State), AtGate i r b s →
    cullCause (s.tracker.gate.state == .skewed) s.policy.unverified r = none →
    let counters := { s.acct.counters with
      delivered := s.acct.counters.delivered.raise r.numbers.length
      setsDelivered := s.acct.counters.setsDelivered.raise 1 }
    let b1 := { b with
      sets := b.sets + 1
      oversize := b.oversize || (b.closePending.isSome && decide (s.policy.bundleSize < b.sets + 1)) }
    let done (remade : Bool) (a : Accounting) (b2 : OpenBundle) : State :=
      let w := closeAtRetirement true remade { openJournal s with
        tracker := s.cued .gate
        table := ⟨putSlot (.trace ⟨i, .delivered, r.numbers, some b.number⟩) s.table.slots, s.table.frontier⟩
        reader := s.reader.noted i ⟨.delivered, r.numbers, some b.number⟩
        gate := { s.gate with divert := false, spoilRun := 0 }
        acct := { a with counters := counters, bundle := some b2 } }
      s.retired { w with journal := [w.acct, s.acct] }
    (r.kind = .regular → ∃ h, s.acct.header.RetiresPast s.scheme r.numbers h
      ∧ Becomes .gateCue s (done false { s.acct with header := h } { b1 with
          firsts := (List.range b.firsts.length).map fun j =>
            (b.firsts.getD j none).or (s.scheme.laneNumber r.numbers (j + 1))
          lasts := (List.range b.lasts.length).map fun j =>
            (s.scheme.laneNumber r.numbers (j + 1)).or (b.lasts.getD j none) }))
    ∧ (r.kind = .remake →
      Becomes .gateCue s (done true { s.acct with
        register := s.acct.register.filter fun e => e.number != r.entry.getD 0 }
        (b1.noting ⟨.remade, i, r.numbers, .delivered⟩)))
  )

/-- A culled set: its numbers are voided, held for remake, or left pending, by the cull policy and the room in the
register and the log; SETS_CULLED, the marks, the exception, the retire note, DIVERT and the spoil-run monitor follow
(R44, R57, R99, R109, R111, R112, R113, R114, R119). In general a log that falls low is reported and holds the job
(`appendVoids`, which `CausesAreRaisedOnce` gives), and the bundle's close, the jump list, the completion check and the
report of a full queue are as for a delivered set (R121, R122, R125, R134, R161, R169). -/
def Obligations.GateCullsTheSet : Prop :=
  (
  ∀ (i : Nat) (r : SetRecord) (b : OpenBundle) (c : VoidCause) (s : State), GateAt i r b s →
    cullCause (s.tracker.gate.state == .skewed) s.policy.unverified r = some c →
    let fill := s.acct.log.records.length
    let after (a : Accounting) (x : Slot) (d : ExceptionDisp) : State :=
      let a1 := { a with bundle := some { b with exceptions := b.exceptions ++ [⟨.culled, i, r.numbers, d⟩] } }
      spoilEvent true { openJournal s with
        tracker := s.cued .gate
        table := ⟨putSlot x s.table.slots, s.table.frontier⟩
        reader := s.reader.noted i ⟨.culled, r.numbers, none⟩
        gate := { s.gate with divert := true }
        acct := a1, journal := [a1, s.acct] }
    let gone : Slot := .trace ⟨i, .culled, r.numbers, none⟩
    let base := { s.acct with
      counters := { s.acct.counters with setsCulled := s.acct.counters.setsCulled.raise 1 } }
    let voided (a : Accounting) (ns : List Machine.Num) (why : VoidCause) (attempts : Nat) (exhausted : Bool) : Accounting :=
      { a with
        counters := { a.counters with voided := a.counters.voided.raise ns.length }
        log := { a.log with
          records := a.log.records
            ++ (s.scheme.withLanes ns).map fun x => ⟨x.1, x.2, why, some i, attempts, exhausted, none⟩ } }
    (r.kind = .regular → s.acct.header.fits s.scheme r.numbers →
      let a := { base with header := s.acct.header.passed s.scheme r.numbers }
      (s.policy.cullPolicy = .remake → s.acct.register.length < 64 →
        Becomes .gateCue s (after { a with
          register := s.acct.register ++ [⟨s.acct.nextEntry, r.numbers, 0, c, .waiting, none, none, false⟩]
          nextEntry := s.acct.nextEntry + 1 } gone .remake))
      ∧ (s.policy.cullPolicy = .void ∨ 64 ≤ s.acct.register.length →
        let why := if s.policy.cullPolicy = .void then c else .remakeFull
        (fill + r.numbers.length ≤ 1024 → LogCalm r.numbers.length s →
          Becomes .gateCue s (after (voided a r.numbers why 0 false) gone .voided))
        ∧ (1024 < fill + r.numbers.length →
          Becomes .gateCue s (after { a with
            rows := s.acct.rows ++ [⟨some i, s.scheme.withLanes r.numbers, why, 0, false⟩] }
            (.record { r with state := .voidPending, pendingCause := some why }) .voidPending))))
    ∧ ∀ before e rest, r.kind = .remake → r.entry = some e.number → s.acct.register = before ++ e :: rest →
      (∀ x ∈ before ++ rest, x.number ≠ e.number) →
      (r.attempt < s.policy.attemptLimit →
        Becomes .gateCue s (after { base with
          register := before ++ rest ++ [{ e with
            attempts := r.attempt, state := .waiting, setIndex := none, pendingCause := none
            exhausted := false }] } gone .remake))
      ∧ (s.policy.attemptLimit ≤ r.attempt →
        (fill + e.numbers.length ≤ 1024 → LogCalm e.numbers.length s →
          Becomes .gateCue s (after (voided { base with register := before ++ rest } e.numbers c r.attempt true)
            gone .voided))
        ∧ (1024 < fill + e.numbers.length →
          Becomes .gateCue s (after { base with
            register := before ++ { e with
              attempts := r.attempt, state := .voidPending, setIndex := some i, pendingCause := some c
              exhausted := true } :: rest } gone .voidPending)))
  )
  ∧ (
  ∀ (i : Nat) (r : SetRecord) (b : OpenBundle) (c : VoidCause) (s : State), AtGate i r b s →
    cullCause (s.tracker.gate.state == .skewed) s.policy.unverified r = some c →
    let fill := s.acct.log.records.length
    let voided := s.acct.counters.voided
    let base (x : Slot) (d : ExceptionDisp) (voided : Counter) (a : Accounting) : State :=
      { openJournal s with
        tracker := s.cued .gate
        table := ⟨putSlot x s.table.slots, s.table.frontier⟩
        reader := s.reader.noted i ⟨.culled, r.numbers, none⟩
        gate := { s.gate with divert := true }
        acct := { a with
          counters := { s.acct.counters with
            setsCulled := s.acct.counters.setsCulled.raise 1
            voided := voided }
          bundle := some (b.noting ⟨.culled, i, r.numbers, d⟩) } }
    let done (u : State) : State :=
      let w := closeAtRetirement false true u
      s.retired (spoilEvent true { w with journal := [w.acct, s.acct] })
    let gone : Slot := .trace ⟨i, .culled, r.numbers, none⟩
    let voids (ns : List Machine.Num) (why : VoidCause) (attempts : Nat) (exhausted : Bool) : List VoidRecord :=
      (s.scheme.withLanes ns).map fun x => ⟨x.1, x.2, why, some i, attempts, exhausted, none⟩
    (r.kind = .regular → ∃ h, s.acct.header.RetiresPast s.scheme r.numbers h
      ∧ (s.policy.cullPolicy = .remake → s.acct.register.length < 64 →
        Becomes .gateCue s (done (base gone .remake voided { s.acct with
          header := h
          register := s.acct.register ++ [⟨s.acct.nextEntry, r.numbers, 0, c, .waiting, none, none, false⟩]
          nextEntry := s.acct.nextEntry + 1 })))
      ∧ (s.policy.cullPolicy = .void ∨ 64 ≤ s.acct.register.length →
        let why := if s.policy.cullPolicy = .void then c else .remakeFull
        (fill + r.numbers.length ≤ 1024 →
          Becomes .gateCue s (done (appendVoids true (voids r.numbers why 0 false)
            (base gone .voided (voided.raise r.numbers.length) { s.acct with header := h }))))
        ∧ (1024 < fill + r.numbers.length →
          Becomes .gateCue s (done (base (.record { r with state := .voidPending, pendingCause := some why })
            .voidPending voided { s.acct with
              header := h
              rows := s.acct.rows ++ [⟨some i, s.scheme.withLanes r.numbers, why, 0, false⟩] })))))
    ∧ ∀ before e rest, r.kind = .remake → r.entry = some e.number → s.acct.register = before ++ e :: rest →
      (∀ x ∈ before ++ rest, x.number ≠ e.number) →
      (r.attempt < s.policy.attemptLimit →
        Becomes .gateCue s (done (base gone .remake voided { s.acct with
          register := before ++ rest ++ [{ e with
            attempts := r.attempt, state := .waiting, setIndex := none, pendingCause := none
            exhausted := false }] })))
      ∧ (s.policy.attemptLimit ≤ r.attempt →
        (fill + e.numbers.length ≤ 1024 →
          Becomes .gateCue s (done (appendVoids true (voids e.numbers c r.attempt true)
            (base gone .voided (voided.raise e.numbers.length) { s.acct with register := before ++ rest }))))
        ∧ (1024 < fill + e.numbers.length →
          Becomes .gateCue s (done (base gone .voidPending voided { s.acct with
            register := before ++ { e with
              attempts := r.attempt, state := .voidPending, setIndex := some i, pendingCause := some c
              exhausted := true } :: rest }))))
  )

/-- The run monitors: a failure counts only with PRUN active and the limit not 0; at the limit it reports, latches its
cause where its action is STOP, and starts again from 0; a success sets it to 0 (R16, R17). A stop cause is latched
once, with a STOP report of the set after the latch (R166, R200). An append that takes the log's free space below 128
sets the low flag, raises LOG_LOW and, in a run, hold cause LOG (R134). A hold cause raised in RUNNING or DRAINING puts
the job in HOLD, with the state it leaves saved and a STATE report; in HOLD it joins the set (R157). -/
def Obligations.CausesAreRaisedOnce : Prop :=
  (
    ∀ s : State,
    readFailEvent false s = { s with reader := { s.reader with readFail := 0 } }
    ∧ spoilEvent false s = { s with gate := { s.gate with spoilRun := 0 } }
    ∧ ((s.policy.readFailLimit = 0 ∨ s.prun = false) → readFailEvent true s = s)
    ∧ ((s.policy.spoilLimit = 0 ∨ s.prun = false) → spoilEvent true s = s)
    ∧ (s.prun = true → s.policy.readFailLimit ≠ 0 →
      (s.reader.readFail + 1 ≠ s.policy.readFailLimit →
        readFailEvent true s = { s with reader := { s.reader with readFail := s.reader.readFail + 1 } })
      ∧ (s.reader.readFail + 1 = s.policy.readFailLimit →
        let s1 : State := { s with
          reader := { s.reader with readFail := 0 }
          link := s.link.addReport ⟨.monitorLimit, [0, byte s.policy.readFailLimit]⟩ }
        readFailEvent true s = if s.policy.readFailAct = .stop then latch .readFail s1 else s1))
    ∧ (s.prun = true → s.policy.spoilLimit ≠ 0 →
      (s.gate.spoilRun + 1 ≠ s.policy.spoilLimit →
        spoilEvent true s = { s with gate := { s.gate with spoilRun := s.gate.spoilRun + 1 } })
      ∧ (s.gate.spoilRun + 1 = s.policy.spoilLimit →
        let s1 : State := { s with
          gate := { s.gate with spoilRun := 0 }
          link := s.link.addReport ⟨.monitorLimit, [1, byte s.policy.spoilLimit]⟩ }
        spoilEvent true s = if s.policy.spoilAct = .stop then latch .spoilRun s1 else s1))
  )
  ∧ (
    ∀ (c : StopCause) (s : State),
    (s.control.stops.has c = true → latch c s = s)
    ∧ (s.control.stops.has c = false → ∃ x : StopSet,
      (∀ d, x.has d = (s.control.stops.has d || d == c))
      ∧ latch c s = { s with
          control := { s.control with stops := x }
          link := s.link.addReport ⟨.stop, byte c.code :: x.bytes⟩ })
  )
  ∧ (
    ∀ (rs : List VoidRecord) (s : State),
    let log := { s.acct.log with records := s.acct.log.records ++ rs }
    let fill := s.acct.log.records.length + rs.length
    (s.acct.log.low = true ∨ fill ≤ 896 → appendVoids true rs s = { s with acct := { s.acct with log := log } })
    ∧ (s.acct.log.low = false → 896 < fill →
      appendVoids true rs s = raiseHold .log { s with
        acct := { s.acct with log := { log with low := true } }
        link := s.link.addReport ⟨.logLow, be16 fill⟩ })
  )
  ∧ (
    ∀ (c : HoldCause) (s : State), ∃ holds : HoldSet, (∀ d, holds.has d = (s.control.holds.has d || d == c))
    ∧ (s.jobState = .running ∨ s.jobState = .draining →
      raiseHold c s = { s with
        acct := s.acct.inState .hold (some s.jobState), control := { s.control with holds := holds }
        link := s.link.addReport (stateReport .hold s.jobState holds) })
    ∧ (s.jobState = .hold → raiseHold c s = { s with control := { s.control with holds := holds } })
    ∧ (s.jobState.inRun = false → raiseHold c s = s)
  )

/-- A bundle that reaches a close: with room in the manifest queue its manifest is appended, the jog starts, the next
bundle opens for SIZE and EXCEPTIONS, and BUNDLE is reported; otherwise the close is pending. At a retirement a pending
SIZE or EXCEPTIONS close completes if there is room, and SIZE comes before EXCEPTIONS. A SUSPECT is reported, counted and,
while its bundle is open and the list has room, an exception; one that fills the list closes the bundle (R119 to R122,
R124, R125). -/
def Obligations.BundlesCloseAndTakeSuspects : Prop :=
  (
    ∀ (b : OpenBundle) (s : State),
    (∀ r : CloseReason, s.acct.manifests.length < 8 →
      reachClose b r s = { s with
        acct := { s.acct with
          manifests := s.acct.manifests ++ [⟨s.acct.header.jobId, b.number, r, b.sets, b.firsts, b.lasts, b.exceptions,
            b.oversize, b.incomplete⟩]
          bundle := if r = .size ∨ r = .exceptions then
              some ⟨b.number + 1, 0, List.replicate s.scheme.lanes none, List.replicate s.scheme.lanes none, [],
                false, false, none⟩
            else none }
        gate := { s.gate with jog := some s.policy.jogWidth }
        link := s.link.addReport ⟨.bundle, be32 b.number ++ [byte r.code] ++ be16 b.sets⟩ })
    ∧ (∀ r : CloseReason, 8 ≤ s.acct.manifests.length →
      reachClose b r s = { s with acct := { s.acct with bundle := some { b with closePending := some r } } })
    ∧ ∀ delivered appended : Bool, s.acct.bundle = some b →
      (∀ r, b.closePending = some r → r = .size ∨ r = .exceptions →
        closeAtRetirement delivered appended s = if s.acct.manifests.length < 8 then reachClose b r s else s)
      ∧ (b.closePending = none →
        closeAtRetirement delivered appended s =
          if delivered = true ∧ b.sets = s.policy.bundleSize then reachClose b .size s
          else if appended = true ∧ b.exceptions.length = 32 then reachClose b .exceptions s
          else s)
  )
  ∧ (
    ∀ (i : Nat) (ns : List Machine.Num) (bundle : Nat) (late : Bool) (s : State),
    let counters := { s.acct.counters with suspect := s.acct.counters.suspect.raise ns.length }
    let link := s.link.addReport
      ⟨.suspect, be32 i ++ [byte ns.length] ++ (ns.map numField).flatten ++ be32 bundle ++ [flagByte late]⟩
    let after (b : Option OpenBundle) : State :=
      let a := { s.acct with counters := counters, bundle := b }
      { s with acct := a, journal := a :: s.journal, link := link }
    ((∀ b, s.acct.bundle = some b → b.number ≠ bundle) → takeSuspect i ns bundle late s = after s.acct.bundle)
    ∧ ∀ b, s.acct.bundle = some b → b.number = bundle →
      let b1 := { b with exceptions := b.exceptions ++ [⟨.suspect, i, ns, .delivered⟩] }
      (b.exceptions.length < 31 ∨ (b.exceptions.length = 31 ∧ b.closePending.isSome = true) →
        takeSuspect i ns bundle late s = after (some b1))
      ∧ (32 ≤ b.exceptions.length → takeSuspect i ns bundle late s = after (some { b with incomplete := true }))
      ∧ (b.exceptions.length = 31 → b.closePending = none → s.acct.manifests.length < 7 →
        let t := reachClose b1 .exceptions
          { s with acct := { s.acct with counters := counters, bundle := some b1 }, link := link }
        takeSuspect i ns bundle late s = { t with journal := t.acct :: s.journal })
  )

/-- The completion check acts only in DRAINING with no record, row or register entry left: it asks for the FINAL close
and ends the job when that close has completed (R6, R83, R103, R109, R123, R161). -/
def Obligations.CompletionCheckEndsTheJob : Prop :=
  ∀ s : State,
    (s.jobState ≠ .draining ∨ s.table.records ≠ [] ∨ s.acct.rows ≠ [] ∨ s.acct.register ≠ [] → completionCheck s = s)
    ∧ (s.jobState = .draining → s.table.records = [] → s.acct.rows = [] → s.acct.register = [] →
      (∀ b, s.acct.bundle = some b → b.closePending = some .final → completionCheck s = s)
      ∧ (∀ b, s.acct.bundle = some b → b.closePending ≠ some .final → 8 ≤ s.acct.manifests.length →
        let a := { s.acct with bundle := some { b with closePending := some .final } }
        completionCheck s = { s with acct := a, journal := a :: s.journal })
      ∧ ∀ s1 : State,
        (s.acct.bundle = none ∧ s1 = s)
          ∨ (∃ b, s.acct.bundle = some b ∧ b.closePending ≠ some .final ∧ s.acct.manifests.length < 8
              ∧ s1 = reachClose b .final s) →
        let a := { s1.acct with header := { s1.acct.header with jobState := .complete } }
        completionCheck s = { s1 with
          acct := a, journal := a :: s.journal
          link := s1.link.addReport (stateReport .complete .draining s.control.holds)
          tracker := ⟨PerPly.ofFn fun p => { s.tracker.heads.get p with state := .inactive },
            { s.tracker.marriage with state := .inactive }, { s.tracker.reader with state := .inactive },
            { s.tracker.gate with state := .inactive }⟩
          heads := PerPly.ofFn fun p =>
            if (s.heads.get p).state.runs then
              { s.heads.get p with state := .idle, queue := [], afterCount := 0, cause := none, code := 0 }
            else s.heads.get p
          reader := { s.reader with state := .idle, queue := [] }
          gate := { s1.gate with divert := true } })

/-! ### Run control, and the streams in a run and after it -/

/-- START's refusals, in their order: STATE outside LOADED and RESUMABLE; PRESS_RUNNING; CONFLICT check 1; STATE with reason
NOT_DRAINED (R155). Carried out: from LOADED every block and the accounting of a new job are set up and the job runs; from
RESUMABLE the accounting is kept, and the job runs or drains; hold causes that already apply then put it in HOLD (R3,
R11, R62, R71, R103, R117, R144, R145, R156). -/
def Obligations.StartRunsTheJob : Prop :=
  (
    ∀ (tag : Byte) (s : State), s.ready = true →
    let refused (pl : List Byte) : Prop := AnswersOnly (.start tag []) s (replyTo .start tag pl)
    let unfitted := ∃ p, s.engaged p = true ∧ (s.heads.get p).state = .unfitted
    (s.jobState ≠ .loaded → s.jobState ≠ .resumable → refused [0x04])
    ∧ (s.jobState = .loaded ∨ s.jobState = .resumable →
      (s.prun = true → refused [0x0C])
      ∧ (s.prun = false → unfitted → refused [0x06, 1])
      ∧ (s.prun = false → ¬ unfitted →
        (s.acct.rows ≠ [] ∨ (s.jobState = .loaded
            ∧ (s.acct.log.records ≠ [] ∨ s.acct.register ≠ [] ∨ s.acct.manifests ≠ [])) → refused [0x04, 0x01])
        ∧ (s.acct.rows = [] → (s.jobState = .loaded →
              s.acct.log.records = [] ∧ s.acct.register = [] ∧ s.acct.manifests = []) →
          ∃ t pl, exec (.start tag []) s = .next t ∧ t.link.Answers (replyTo .start tag (0x00 :: pl)))))
  )
  ∧ (
    ∀ (tag : Byte) (d : Nat) (s : State), s.ready = true → s.prun = false →
    (∀ p, s.engaged p = true → (s.heads.get p).state ≠ .unfitted) → s.acct.job.geometry.GreatestPath d →
    s.acct.rows = [] →
    let started (a : Accounting) (j old : JobState) : State :=
      { (openJournal s).setUp d with
        acct := a, journal := [a, s.acct]
        link := s.link.addReport (stateReport j old s.control.holds) }
    let a0 := { s.acct with header := { s.acct.header with jobState := .running } }
    (s.jobState = .loaded → s.acct.log.records = [] → s.acct.log.low = false → s.acct.register = [] →
      s.acct.manifests = [] →
      Answers (.start tag []) s
        (started { a0 with
          header := { a0.header with
            jobId := s.scheme.jobId
            marks := s.scheme.streamStarts.map fun n => ⟨.item n, .item n⟩
            jumpList := [] }
          counters := Counters.zero
          log := { a0.log with freed := 0 }
          nextEntry := 1
          bundle := some ⟨1, 0, List.replicate s.scheme.lanes none, List.replicate s.scheme.lanes none, [], false, false,
            none⟩ } .running .loaded)
        (replyTo .start tag [0x00, 2]))
    ∧ (s.jobState = .resumable →
      (s.acct.counters.setsRegular.value < s.scheme.quantity →
        (s.acct.log.low = false → s.acct.manifests.length < 8 →
          Answers (.start tag []) s (started a0 .running .resumable) (replyTo .start tag [0x00, 2]))
        ∧ (s.acct.log.low = true ∨ 8 ≤ s.acct.manifests.length →
          AnswersNext (.start tag []) s (replyTo .start tag [0x00, 3]) fun t =>
            t.acct = s.acct.inState .hold (some .running)
              ∧ t.control = { s.control with holds := { s.control.holds with
                  log := s.control.holds.log || s.acct.log.low
                  manifest := s.control.holds.manifest || decide (8 ≤ s.acct.manifests.length) } }
              ∧ t.tracker = s.trackerAtStart d ∧ t.table = ⟨[], 0⟩ ∧ t.heads = s.headsAtStart d))
      ∧ (s.scheme.quantity ≤ s.acct.counters.setsRegular.value → s.acct.register ≠ [] → s.acct.log.low = false →
        s.acct.manifests.length < 8 →
        let a := { s.acct with header := { s.acct.header with jobState := .draining } }
        Answers (.start tag []) s (started a .draining .resumable) (replyTo .start tag [0x00, 4])))
  )

/-- Every step keeps the streams in step with the sets they have issued: from the retired marks to the allocation marks
lie the numbers of the OPEN REGULAR records, in order of set index, and the jump ranges, each just after a set's
numbers; after a reset the same sets are in doubt (R23, R32, R33, R113, R145, R165, R169, R174). With the pending-void
rows they are at most 256 (R42, R57). The saved return state is a legal one, which `TagsAndSavedStatesKept` says every
step keeps. -/
def Obligations.StreamsHoldTheSetsInDoubt : Prop :=
  ∀ s t : State, StreamInv s → RingInv s → LegalInv s → step s = .next t → StreamInv t

/-- HOLD: in RUNNING and DRAINING it enters HOLD with cause HOST and the state left saved, in one write; in HOLD it adds
HOST; elsewhere it is refused with STATE (R158). RELEASE: STATE outside HOLD; refused with CAUSE_PERSISTS while a cause
other than HOST is held; otherwise HOST is withdrawn and the job returns to its saved state, in DRAINING with the
completion check (R159). That a HOLD in HOLD counts as a write of its own is the model's choice (log entry 22). -/
def Obligations.HoldAndRelease : Prop :=
  (
    ∀ (tag : Byte) (s : State), s.ready = true →
    let holds := { s.control.holds with host := true }
    let reply := replyTo .hold tag [0x00, 3, holds.byte]
    (s.jobState = .running ∨ s.jobState = .draining →
      let a := s.acct.inState .hold (some s.jobState)
      Answers (.hold tag []) s { openJournal s with
        acct := a, journal := [a, s.acct], control := { s.control with holds := holds }
        link := s.link.addReport (stateReport .hold s.jobState holds) } reply)
    ∧ (s.jobState = .hold →
      Answers (.hold tag []) s { openJournal s with
        journal := [s.acct, s.acct], control := { s.control with holds := holds } } reply)
    ∧ (s.jobState ≠ .running → s.jobState ≠ .draining → s.jobState ≠ .hold →
      AnswersOnly (.hold tag []) s (replyTo .hold tag [0x04]))
  )
  ∧ (
    (∀ (tag : Byte) (s : State), s.ready = true → s.jobState ≠ .hold →
    AnswersOnly (.release tag []) s (replyTo .release tag [0x04]))
  ∧ ∀ (tag : Byte) (s : State), s.ready = true → s.jobState = .hold →
    let h := s.control.holds
    (h.log = true ∨ h.manifest = true ∨ h.exhausted = true →
      AnswersOnly (.release tag []) s (replyTo .release tag [0x0B, 3, h.byte]))
    ∧ (h.log = false → h.manifest = false → h.exhausted = false → ∀ back, s.acct.header.savedReturn = some back →
      let a := s.acct.inState back none
      let s1 : State := { openJournal s with
        acct := a, journal := [a, s.acct], control := { s.control with holds := HoldSet.empty }
        link := s.link.addReport (stateReport back .hold HoldSet.empty) }
      (back = .running → Answers (.release tag []) s s1 (replyTo .release tag [0x00, 2, 0]))
      ∧ (back = .draining →
        let t := completionCheck s1
        Answers (.release tag []) s t (replyTo .release tag [0x00, byte t.jobState.code, 0])))
  )

/-- ABORT: from LOADED the job returns to IDLE; from a run, RECOVERY or RESUMABLE every record, entry and in-doubt set is
disposed of: its numbers are in the void log, with cause ABORTED, or POWER_LOSS for a DOUBT entry and an in-doubt set, or
are left pending with that cause where the log lacks room; no other record is written but those of pending rows. The
marks meet, the bundle is asked to close, and the job is ABORTED (R63, R123, R131, R141, R144, R162, R163, R166, R179). -/
def Obligations.AbortDisposesOfTheJob : Prop :=
  (∀ (tag : Byte) (s : State), s.ready = true → s.key = true → s.jobState = .loaded →
    let a := { s.acct with header := { s.acct.header with jobState := .idle }, laneStarts := [] }
    Answers (.abort tag []) s
      { openJournal s with
        acct := a, journal := [a, s.acct]
        link := s.link.addReport (stateReport .idle .loaded s.control.holds) }
      (replyTo .abort tag ([0x00, 0] ++ be32 0
        ++ be16 (s.acct.rows.length + s.acct.register.countP fun e => e.state == .voidPending) ++ [0xFF])))
  ∧ ∀ (tag : Byte) (s : State), s.ready = true → s.key = true →
    (s.jobState.inRun = true ∨ s.jobState = .recovery ∨ s.jobState = .resumable) → RingInv s → QuietInv s →
    (s.acct.register.map RemakeEntry.number).Nodup →
    ∃ (t : State) (n : Nat) (close : Byte), exec (.abort tag []) s = .next t
      ∧ t.link.Answers (replyTo .abort tag ([0x00, 6] ++ be32 n
          ++ be16 (t.acct.rows.length + t.acct.register.length) ++ [close]))
      ∧ t.jobState = .aborted ∧ t.acct.header.savedReturn = none ∧ t.Quiet ∧ t.control.holds = HoldSet.empty
      ∧ t.control.stops = s.control.stops ∧ t.table.traces = [] ∧ t.table.frontier = s.table.frontier
      ∧ (∀ r ∈ t.table.records, r.state = .voidPending)
      ∧ (∀ e ∈ t.acct.register, e.state = .voidPending)
      ∧ (∀ e ∈ s.acct.register, e.state = .voidPending → e ∈ t.acct.register)
      ∧ (∃ rs : List VoidRecord, rs.length = n ∧ t.acct.log.records = s.acct.log.records ++ rs
          ∧ let entryVoid (e : RemakeEntry) : VoidCause := if e.state = .doubt then .powerLoss else .aborted
            (∀ x ∈ rs,
              (∃ r ∈ s.table.records, r.state = .opened ∧ r.kind = .regular ∧ ∃ y ∈ s.scheme.withLanes r.numbers,
                x = ⟨y.1, y.2, .aborted, some r.index, 0, false, none⟩)
              ∨ (∃ w ∈ s.acct.rows, ∃ y ∈ w.numbers,
                x = ⟨y.1, y.2, w.cause, w.setIndex, w.attempts, w.exhausted, none⟩)
              ∨ (∃ e ∈ s.acct.register, e.state ≠ .voidPending ∧ ∃ y ∈ s.scheme.withLanes e.numbers,
                x = ⟨y.1, y.2, entryVoid e, none, e.attempts, false, none⟩)
              ∨ (s.jobState = .recovery ∧ x.cause = .powerLoss ∧ x.setIndex = none ∧ x.attempts = 0
                ∧ x.exhausted = false ∧ x.rangeLast = none))
            ∧ (∀ r ∈ s.table.records, r.state = .opened → r.kind = .regular →
              (∀ y ∈ s.scheme.withLanes r.numbers, (⟨y.1, y.2, .aborted, some r.index, 0, false, none⟩ : VoidRecord) ∈ rs)
              ∨ (⟨some r.index, s.scheme.withLanes r.numbers, .aborted, 0, false⟩ ∈ t.acct.rows
                ∧ t.table.recordAt r.index = some { r with state := .voidPending, pendingCause := some .aborted }))
            ∧ (∀ e ∈ s.acct.register, e.state ≠ .voidPending →
              (∀ y ∈ s.scheme.withLanes e.numbers,
                (⟨y.1, y.2, entryVoid e, none, e.attempts, false, none⟩ : VoidRecord) ∈ rs)
              ∨ { e with
                  state := .voidPending, setIndex := none, pendingCause := some (entryVoid e)
                  exhausted := false } ∈ t.acct.register)
            ∧ (s.jobState = .recovery → s.table.records = [] → ∀ ns ∈ s.doubtSets,
              (∀ y ∈ s.scheme.withDoubtLanes ns, (⟨y.1, y.2, .powerLoss, none, 0, false, none⟩ : VoidRecord) ∈ rs)
              ∨ ⟨none, s.scheme.withDoubtLanes ns, .powerLoss, 0, false⟩ ∈ t.acct.rows))
      ∧ t.acct.counters = { s.acct.counters with voided := t.acct.counters.voided }
      ∧ (s.acct.counters.voided.value + n ≤ 99999999 →
          t.acct.counters.voided.value = s.acct.counters.voided.value + n)
      ∧ t.acct.header.marks = s.acct.header.marks.map (fun m => { m with retired := m.alloc })
      ∧ t.acct.header.jumpList = [] ∧ t.acct.header.jobId = s.acct.header.jobId ∧ t.acct.job = s.acct.job
      ∧ (s.acct.bundle = none → close = 0xFF ∧ t.acct.bundle = none ∧ t.acct.manifests = s.acct.manifests)
      ∧ ∀ b, s.acct.bundle = some b →
          if s.acct.manifests.length < 8 then
            close = 0 ∧ t.acct.bundle = none
              ∧ t.acct.manifests = s.acct.manifests ++ [⟨s.acct.header.jobId, b.number, .aborted, b.sets, b.firsts,
                  b.lasts, b.exceptions, b.oversize, b.incomplete⟩]
          else close = 1 ∧ t.acct.bundle = some { b with closePending := some .aborted }
            ∧ t.acct.manifests = s.acct.manifests

/-- CLOSE: STATE outside COMPLETE and ABORTED; NOT_DRAINED while the log, the manifest queue, the register or a row is
left; otherwise one write restores the defaults, zeroes the counters and returns the part to IDLE (R164). -/
def Obligations.CloseReturnsThePartToIdle : Prop :=
  ∀ (tag : Byte) (s : State), s.ready = true → s.key = true →
    (s.jobState ≠ .complete → s.jobState ≠ .aborted → AnswersOnly (.close tag []) s (replyTo .close tag [0x04]))
    ∧ (s.jobState = .complete ∨ s.jobState = .aborted →
      (s.acct.log.records ≠ [] ∨ s.acct.manifests ≠ [] ∨ s.acct.rows ≠ [] ∨ s.acct.register ≠ [] →
        AnswersOnly (.close tag []) s (replyTo .close tag [0x04, 0x01]))
      ∧ (s.acct.log.records = [] → s.acct.manifests = [] → s.acct.rows = [] → s.acct.register = [] →
        let a := { s.acct with
          header := ⟨.idle, none, 0, [], []⟩, job := JobDef.default, laneStarts := []
          log := { s.acct.log with freed := 0 }, nextEntry := 1, counters := Counters.zero }
        Answers (.close tag []) s { openJournal s with
          acct := a, journal := [a, s.acct]
          link := s.link.addReport (stateReport .idle s.jobState s.control.holds)
          heads := PerPly.ofFn fun p =>
            if (s.heads.get p).state = .idle then { s.heads.get p with state := .disengaged } else s.heads.get p }
          (replyTo .close tag [0x00])))

/-- JUMP_IF in RUNNING and HOLD outside SPLIT mode: its tests in their order, and the jump: one JUMPED record, JUMPED
raised by the distance, the next regular number and the jump list moved (R133, R165, R169). Shown with an empty jump
list; what a longer one becomes is part of `StreamsHoldTheSetsInDoubt`. A target that the method excludes is answered
without a check: the model's choice (log entry 18). -/
def Obligations.JumpIfMovesTheStream : Prop :=
  ∀ (tag : Byte) (pl : List Byte) (s : State) (m : StreamMarks) (ms : List StreamMarks), s.ready = true →
    s.key = true → formatOk .jumpIf pl = true → (s.jobState = .running ∨ s.jobState = .hold) →
    s.scheme.mode ≠ .split → s.acct.header.marks = m :: ms →
    let c := s.scheme
    let refused (st : Byte) : Prop :=
      AnswersOnly (.jumpIf tag pl) s (replyTo .jumpIf tag (st :: markField (some m.alloc)))
    (u8 pl 0 ≠ 1 → refused 0x05)
    ∧ (u8 pl 0 = 1 →
      (m.alloc = .atEnd ∨ (∃ cur, m.alloc = .item cur
          ∧ ∀ x, c.member (suppliedAt pl 1) = some x → x.same cur = false) → refused 0x0A)
      ∧ ∀ cur x, m.alloc = .item cur → c.member (suppliedAt pl 1) = some x → x.same cur = true →
        let fits (new : Machine.Num) : Prop :=
          c.onStream (c.posOf new) = true ∧ c.forward (c.posOf cur) (c.posOf new) = true
            ∧ (c.method = .mod11s
              ∨ c.holds (c.posOf new)
                  ((c.quantity - s.acct.counters.setsRegular.value) * (if c.mode = .rep then 1 else c.lanes)) = true)
            ∧ s.acct.counters.jumped.value + c.distance (c.posOf cur) (c.posOf new) ≤ 99999999
        ((∀ new, c.member (suppliedAt pl 9) = some new → ¬ fits new) → refused 0x05)
        ∧ ∀ new, c.member (suppliedAt pl 9) = some new → fits new →
          (1024 ≤ s.acct.log.records.length → refused 0x0D)
          ∧ (s.acct.log.records.length < 1024 → LogCalm 1 s → s.acct.header.jumpList = [] →
            let first : Machine.Num := { cur with check := c.checkOf cur.serial }
            let last := c.numAt (c.stepBackPos (c.posOf new))
            let target := c.numAt (c.posOf new)
            let jumped (retired : Mark) (js : List JumpRange) : Prop :=
              let a := { s.acct with
                log := { s.acct.log with
                  records := s.acct.log.records ++ [⟨first, 0, .jumped, none, 0, false, some last⟩] }
                counters := { s.acct.counters with
                  jumped := s.acct.counters.jumped.raise (c.distance (c.posOf cur) (c.posOf new)) }
                header := { s.acct.header with marks := ⟨.item target, retired⟩ :: ms, jumpList := js } }
              Answers (.jumpIf tag pl) s { openJournal s with acct := a, journal := [a, s.acct] }
                (replyTo .jumpIf tag (0x00 :: markField (some (.item target))))
            ((∀ y, m.retired = .item y → first.same y = false) → jumped m.retired [⟨first, last⟩])
            ∧ ∀ y, m.retired = .item y → first.same y = true → jumped (c.markAfter last) []))

/-- RECOVER in RECOVERY: REMAKE under a VOID policy is refused with CONFLICT; otherwise every DOUBT entry and in-doubt
set is disposed of: under REMAKE a DOUBT entry waits again and an in-doubt set becomes a new entry while the register has
room; the others are in the void log with cause POWER_LOSS, or left pending with it where the log lacks room. The marks
meet and the job is RESUMABLE (R141, R144, R175, R176, R177). -/
def Obligations.RecoverDisposesOfTheDoubt : Prop :=
  (∀ (tag : Byte) (s : State), s.ready = true → s.key = true → s.jobState = .recovery →
    s.policy.cullPolicy = .void → AnswersOnly (.recover tag [1]) s (replyTo .recover tag [0x06, 0]))
  ∧ ∀ (tag : Byte) (remake : Bool) (s : State), s.ready = true → s.key = true → s.jobState = .recovery →
    (remake = true → s.policy.cullPolicy = .remake) → (s.acct.register.map RemakeEntry.number).Nodup →
    (∀ e ∈ s.acct.register, e.number < s.acct.nextEntry) →
    ∃ (t : State) (n created : Nat), exec (.recover tag [if remake then 1 else 0]) s = .next t
      ∧ t.link.Answers (replyTo .recover tag ([0x00] ++ be32 n
          ++ [byte (if remake then s.acct.register.countP fun e => e.state == .doubt else 0), byte created]
          ++ be16 (t.acct.rows.length + t.acct.register.countP fun e => e.state == .voidPending)))
      ∧ t.jobState = .resumable ∧ t.acct.nextEntry = s.acct.nextEntry + created
      ∧ (∀ e ∈ t.acct.register, e.state ≠ .doubt)
      ∧ (∀ e ∈ s.acct.register, e.state ≠ .doubt → e ∈ t.acct.register)
      ∧ (∀ e ∈ s.acct.register, e.state = .doubt → remake = true →
          { e with state := .waiting, setIndex := none, pendingCause := none, exhausted := false } ∈ t.acct.register)
      ∧ created = (if remake then min (64 - s.acct.register.length) s.doubtSets.length else 0)
      ∧ (∀ w ∈ s.acct.rows, w ∈ t.acct.rows)
      ∧ (∃ rs : List VoidRecord, rs.length = n ∧ t.acct.log.records = s.acct.log.records ++ rs
          ∧ (∀ x ∈ rs, x.cause = .powerLoss ∧ x.setIndex = none ∧ x.exhausted = false)
          ∧ (∀ e ∈ s.acct.register, e.state = .doubt → remake = false →
            (∀ y ∈ s.scheme.withLanes e.numbers,
              (⟨y.1, y.2, .powerLoss, none, e.attempts, false, none⟩ : VoidRecord) ∈ rs)
            ∨ { e with
                state := .voidPending, setIndex := none, pendingCause := some .powerLoss
                exhausted := false } ∈ t.acct.register)
          ∧ ∀ ns ∈ s.doubtSets,
            (∀ y ∈ s.scheme.withDoubtLanes ns, (⟨y.1, y.2, .powerLoss, none, 0, false, none⟩ : VoidRecord) ∈ rs)
            ∨ ⟨none, s.scheme.withDoubtLanes ns, .powerLoss, 0, false⟩ ∈ t.acct.rows
            ∨ (remake = true ∧ ∃ k, s.acct.nextEntry ≤ k
              ∧ ⟨k, ns, 0, .powerLoss, .waiting, none, none, false⟩ ∈ t.acct.register))
      ∧ t.acct.counters = { s.acct.counters with voided := t.acct.counters.voided }
      ∧ (s.acct.counters.voided.value + n ≤ 99999999 →
          t.acct.counters.voided.value = s.acct.counters.voided.value + n)
      ∧ t.acct.header = { s.acct.header with
          jobState := .resumable, jumpList := []
          marks := s.acct.header.marks.map fun m => { m with retired := m.alloc } }
      ∧ t.acct.bundle = s.acct.bundle ∧ t.acct.manifests = s.acct.manifests ∧ t.acct.job = s.acct.job
      ∧ t.control = s.control ∧ t.table = s.table

/-- RECOVER's in-doubt sets: between the marks of one stream that has jumped nothing, under a method that excludes
nothing, the numbers are the issued items in stream order, cut into the sets the allocations took (R174). -/
def Obligations.InDoubtSetsAreTheLostRecords : Prop :=
  ∀ (k : Nat) (start stop : Mark) (ns : List Machine.Num) (ex : Nat) (s : State),
    s.scheme.mode ≠ .split → s.scheme.inRange = true → s.scheme.method ≠ .mod11s → s.acct.header.jumpList = [] →
    s.acct.header.marks = [⟨stop, start⟩] →
    (∀ n, start = .item n → n = s.scheme.numAt (s.scheme.posOf n) ∧ s.scheme.posOf n ≤ s.scheme.lastPos) →
    s.scheme.issueRun (k * s.scheme.numbersPerSet) start = some (ns, ex, stop) →
    s.doubtSets.flatten = ns ∧ s.doubtSets.length = k
      ∧ ∀ x ∈ s.doubtSets, x.length = s.scheme.numbersPerSet

/-- STOP_CLEAR: each named cause that is latched and whose condition of Table 71 has ended is cleared, the others stay;
the reply carries the causes left, and the named ones that stay (R167). -/
def Obligations.StopClearClearsWhatHasEnded : Prop :=
  ∀ (tag b0 b1 b2 : Byte) (s : State), s.ready = true →
    (64 ≤ b0.toNat ∨ 64 ≤ b1.toNat → AnswersOnly (.stopClear tag [b0, b1, b2]) s (replyTo .stopClear tag [0x05]))
    ∧ (b0.toNat < 64 → b1.toNat < 64 →
      let named : StopCause → Bool := fun x => match x with
        | .headFault p => b0.getLsbD (p.number - 1)
        | .skew p => b1.getLsbD (p.number - 1)
        | x => b2.getLsbD (x.code - 13)
      ∃ left still : StopSet,
        (∀ x, left.has x = (s.control.stops.has x && !(named x && Table71 s x)))
        ∧ (∀ x, still.has x = (named x && left.has x))
        ∧ Answers (.stopClear tag [b0, b1, b2]) s
            { openJournal s with control := { s.control with stops := left } }
            (replyTo .stopClear tag ((if still.any then 0x0B else 0x00) :: (left.bytes ++ still.bytes))))

/-! ### Sets, resumes, freeing -/

/-- CULL: each addressed set below the frontier that is Open is marked; Pending and Retired ones are too late; the others
are not found. The number form addresses the sets that carry the number on the lane (R60, R61). -/
def Obligations.CullMarksTheSets : Prop :=
  ∀ (tag : Byte) (s : State), s.ready = true → s.jobState.inRun = true → RingInv s →
    let opened (i : Nat) : Bool := (s.table.openAt i).isSome
    let isLate (i : Nat) : Bool := match s.lookup i with
      | .pending _ _ => true | .retired _ => true | .opened _ => false | .none => false
    let culled (pl : List Byte) (idx : List Nat) (lost : Nat) : Prop :=
      let inTable := idx.filter fun i => decide (i < s.table.frontier)
      let marked := inTable.countP opened
      let late := inTable.filter isLate
      Answers (.cull tag pl) s
        { openJournal s with
          table := s.table.rewrite (fun r => r.state == .opened && inTable.contains r.index)
            (fun r => { r with hostCull := true }) }
        (replyTo .cull tag ((if 1 ≤ marked then 0x00 else if late ≠ [] then 0x07 else 0x08)
          :: (be16 marked ++ [flagByte (late ≠ [])] ++ be32 (late.headD 0)
            ++ be16 (lost + (idx.length - marked - late.length)))))
    (∀ first count : Nat, first < 4294967296 → 1 ≤ count → count ≤ 256 → first + count - 1 ≤ 4294967295 →
      culled ([0x00] ++ be32 first ++ be16 count) ((List.range count).map (first + ·)) 0)
    ∧ ∀ (field : List Byte) (lane : Byte), field.length = 8 → numberFieldOk field 0 = true →
      1 ≤ lane.toNat → lane.toNat ≤ s.scheme.lanes →
      (s.scheme.member (suppliedAt field 0) = none → culled ([0x01] ++ field ++ [lane]) [] 1)
      ∧ ∀ n, s.scheme.member (suppliedAt field 0) = some n →
        let carries (ns : List Machine.Num) : Prop := ∃ x, s.scheme.laneNumber ns lane.toNat = some x ∧ x.same n = true
        ∀ idx : List Nat, idx.Pairwise (· < ·) →
          (∀ i, i ∈ idx ↔ (∃ r ∈ s.table.records, r.index = i ∧ carries r.numbers)
            ∨ (∃ t ∈ s.table.traces, t.index = i ∧ carries t.numbers)
            ∨ (∃ w ∈ s.acct.rows, w.setIndex = some i ∧ carries (w.numbers.map Prod.fst))) →
          culled ([0x01] ++ field ++ [lane]) idx (if idx = [] then 1 else 0)

/-- HEAD_RESUME (R82), READER_RESUME (R102) and GATE_RESUME (R116): refused as their rules say; accepted, the queue is
emptied, the station realigned with the marriage count, the unit back in service, and its stop causes cleared. -/
def Obligations.ResumesReturnToService : Prop :=
  (
    ∀ (tag b : Byte) (s : State), s.ready = true →
    (b = 0 ∨ 6 < b.toNat → AnswersOnly (.headResume tag [b]) s (replyTo .headResume tag [0x05]))
    ∧ ∀ p : Ply, b.toNat = p.number →
      ((s.heads.get p).state ≠ .faulted ∨ s.jobState.inRun = false →
        AnswersOnly (.headResume tag [b]) s (replyTo .headResume tag [0x04]))
      ∧ ((s.heads.get p).state = .faulted → s.jobState.inRun = true →
        let ch := s.heads.get p
        let x := s.tracker.heads.get p
        let next : Int := (s.tracker.marriage.count : Int) - (x.delay.getD 0 : Nat)
        let st : ChannelState := if 0 ≤ next then .numbering else .leadIn
        Answers (.headResume tag [b]) s
          { openJournal s with
            table := s.table.ply p (fun i => ch.queue.any fun l => l.index == i) .faulted
            heads := s.heads.set p { ch with state := st, cause := none, code := 0, queue := [] }
            tracker := s.tracker.set (.head p)
              { x with count := s.tracker.marriage.count, prevSkew := false, state := .aligned }
            control := { s.control with stops := (s.control.stops.put (.headFault p) false).put (.skew p) false } }
          (replyTo .headResume tag ([0x00, byte st.code] ++ beSigned40 next)))
  )
  ∧ (
    ∀ (tag : Byte) (s : State), s.ready = true →
    (s.jobState.inRun = false ∨ s.reader.state.suspended = false →
      AnswersOnly (.readerResume tag []) s (replyTo .readerResume tag [0x04]))
    ∧ (s.jobState.inRun = true → s.reader.state.suspended = true →
      let x := s.tracker.reader
      Answers (.readerResume tag []) s
        { openJournal s with
          tracker := { s.tracker with
            reader := { x with count := s.tracker.marriage.count, prevSkew := false, state := .aligned } }
          reader := { s.reader with state := .reading, queue := [], code := 0 }
          control := { s.control with stops := { s.control.stops with readerFault := false, readerSkew := false } } }
        (replyTo .readerResume tag
          ([0x00] ++ beSigned40 ((s.tracker.marriage.count : Int) - (x.delay.getD 0 : Nat)))))
  )
  ∧ (
    ∀ (tag : Byte) (s : State), s.ready = true →
    (s.jobState.inRun = false ∨ s.tracker.gate.state ≠ .skewed →
      AnswersOnly (.gateResume tag []) s (replyTo .gateResume tag [0x04]))
    ∧ (s.jobState.inRun = true → s.tracker.gate.state = .skewed →
      let x := s.tracker.gate
      Answers (.gateResume tag []) s
        { openJournal s with
          tracker := { s.tracker with
            gate := { x with count := s.tracker.marriage.count, prevSkew := false, state := .aligned } }
          control := { s.control with stops := { s.control.stops with gateSkew := false } } }
        (replyTo .gateResume tag
          ([0x00] ++ beSigned40 ((s.tracker.marriage.count : Int) - (x.delay.getD 0 : Nat)))))
  )

/-- MANIFEST_FREE: RANGE, or the oldest manifests leave the queue in one write, hold cause MANIFEST is withdrawn, and a
pending FINAL or ABORTED close completes; the completion check follows, which in DRAINING may complete the job (R122,
R125, R127, R161). -/
def Obligations.ManifestFreeMakesRoom : Prop :=
  ∀ (tag b : Byte) (s : State), s.ready = true → s.acct.manifests.length ≤ 8 →
    let n := b.toNat
    (n = 0 ∨ 8 < n ∨ s.acct.manifests.length < n →
      AnswersOnly (.manifestFree tag [b]) s (replyTo .manifestFree tag [0x05]))
    ∧ (1 ≤ n → n ≤ s.acct.manifests.length →
      let a := { s.acct with manifests := s.acct.manifests.drop n }
      let freed : State := { openJournal s with
        acct := a, journal := [a, s.acct]
        control := { s.control with holds := { s.control.holds with manifest := false } } }
      ((∀ x, s.acct.bundle = some x → x.closePending ≠ some .final ∧ x.closePending ≠ some .aborted) →
        Answers (.manifestFree tag [b]) s freed.checked
          (replyTo .manifestFree tag [0x00, byte freed.checked.acct.manifests.length])
          ∧ (s.jobState ≠ .draining → freed.checked = freed))
      ∧ ∀ x r, s.acct.bundle = some x → x.closePending = some r → r = .final ∨ r = .aborted → 2 ≤ n →
        let t := reachClose x r freed
        let closed : State := { t with journal := [t.acct, a, s.acct] }
        Answers (.manifestFree tag [b]) s closed.checked
          (replyTo .manifestFree tag [0x00, byte (s.acct.manifests.length - n + 1)])
          ∧ (s.jobState ≠ .draining → closed.checked = closed)
          ∧ (s.jobState = .draining → s.table.records = [] → s.acct.rows = [] → s.acct.register = [] →
            closed.checked.jobState = .complete))

/-- LOG_FREE: RANGE, or the oldest records leave in one write; then the pending voids are flushed while they fit, the
rows whole in the order of R137, then the VOID_PENDING entries in register order, each with its own cause, VOIDED rising
by the records written; then the low flag is evaluated and hold cause LOG withdrawn where it clears; then comes the
completion check, which in DRAINING may complete the job (R58, R134, R136, R137, R141, R143, R161). A flush that makes a
log low that was not raises LOG_LOW and hold cause LOG (`raiseHold`, which `CausesAreRaisedOnce` gives). Only the flushed
rows' records leave the table, and nothing else changes but the account of the writes. -/
def Obligations.LogFreeFlushesThePendingVoids : Prop :=
  ∀ (tag : Byte) (n : Nat) (s : State), s.ready = true → n < 65536 → s.acct.log.records.length ≤ 1024 →
    let held := s.acct.log.records.drop n
    let after (log : VoidLog) : Accounting := { s.acct with log := log }
    let freed := s.acct.log.freed + n
    (n = 0 ∨ 1024 < n ∨ s.acct.log.records.length < n →
      AnswersOnly (.logFree tag (be16 n)) s (replyTo .logFree tag [0x05]))
    ∧ (1 ≤ n → n ≤ s.acct.log.records.length →
      (s.acct.rows = [] → (∀ e ∈ s.acct.register, e.state ≠ .voidPending) →
        let clears := s.acct.log.low = true ∧ held.length ≤ 896
        let a := after ⟨held, freed, s.acct.log.low⟩
        (¬ clears →
          let u : State := { openJournal s with acct := a, journal := [a, s.acct] }
          Answers (.logFree tag (be16 n)) s u.checked
              (replyTo .logFree tag ([0x00] ++ be16 held.length ++ be32 freed ++ [flagByte s.acct.log.low] ++ be16 0))
            ∧ (s.jobState ≠ .draining → u.checked = u))
        ∧ (clears →
          let a1 := after ⟨held, freed, false⟩
          let u : State := { openJournal s with
            acct := a1, journal := [a1, a, s.acct]
            control := { s.control with holds := { s.control.holds with log := false } } }
          Answers (.logFree tag (be16 n)) s u.checked
              (replyTo .logFree tag ([0x00] ++ be16 held.length ++ be32 freed ++ [0] ++ be16 0))
            ∧ (s.jobState ≠ .draining → u.checked = u)))
      ∧ (∀ order : List PendingRow, s.acct.rows.Perm order →
        (order.filter fun w => w.setIndex.isSome).Pairwise (fun a b => a.setIndex.getD 0 < b.setIndex.getD 0) →
        order = (order.filter fun w => w.setIndex.isSome) ++ s.acct.rows.filter (fun w => w.setIndex.isNone) →
        RingInv s → s.acct.log.low = decide (896 < s.acct.log.records.length) →
        let entries := s.acct.register.filter fun e => e.state == .voidPending
        (entries = [] ∨ (s.acct.register.map RemakeEntry.number).Nodup) →
        ∃ (k j : Nat) (u : State),
          Answers (.logFree tag (be16 n)) s u.checked (replyTo .logFree tag ([0x00] ++ be16 u.acct.log.records.length
              ++ be32 freed ++ [flagByte u.acct.log.low]
              ++ be16 (u.acct.rows.length + u.acct.register.countP fun e => e.state == .voidPending)))
          ∧ (k < order.length → j = 0)
          ∧ u.acct.rows.Perm (order.drop k)
          ∧ u.acct.register = s.acct.register.filter (fun e => !(entries.take j).contains e)
          ∧ u.acct.log.records = held
              ++ ((order.take k).map fun w =>
                w.numbers.map fun x => ⟨x.1, x.2, w.cause, w.setIndex, w.attempts, w.exhausted, none⟩).flatten
              ++ ((entries.take j).map fun e => (s.scheme.withLanes e.numbers).map fun x =>
                ⟨x.1, x.2, e.pendingCause.getD .aborted, e.setIndex, e.attempts, e.exhausted, none⟩).flatten
          ∧ u.acct.log.records.length ≤ 1024
          ∧ (∀ w, order[k]? = some w → 1024 < u.acct.log.records.length + w.numbers.length)
          ∧ (k = order.length → ∀ e, entries[j]? = some e → 1024 < u.acct.log.records.length + e.numbers.length)
          ∧ (∀ w ∈ order.take k, ∀ i r, w.setIndex = some i → s.table.recordAt i = some r → r.state = .voidPending →
              u.table.traceAt i = some ⟨i, .culled, r.numbers, none⟩)
          ∧ u.acct.log.low = decide (896 < u.acct.log.records.length)
          ∧ (s.acct.counters.voided.value + (u.acct.log.records.length - held.length) ≤ 99999999 →
              u.acct.counters.voided.value = s.acct.counters.voided.value + (u.acct.log.records.length - held.length))
          ∧ u.acct = { s.acct with
              log := { u.acct.log with freed := freed }, rows := u.acct.rows, register := u.acct.register
              counters := { s.acct.counters with voided := u.acct.counters.voided }, header := u.acct.header }
          ∧ u.table.frontier = s.table.frontier
          ∧ (∀ a, (∀ w ∈ order.take k, w.setIndex = some a → ∀ r, s.table.recordAt a = some r → r.state ≠ .voidPending) →
              u.table.recordAt a = s.table.recordAt a ∧ u.table.traceAt a = s.table.traceAt a)
          ∧ u.control.stops = s.control.stops
          ∧ (s.acct.log.low = true ∨ u.acct.log.low = false →
              u.acct.header = s.acct.header ∧ u.link = s.link
                ∧ u.control.holds = { s.control.holds with
                    log := s.control.holds.log && (u.acct.log.low || !s.acct.log.low) })
          ∧ (s.acct.log.low = false → u.acct.log.low = true →
              ∃ fill, 896 < fill ∧ fill ≤ u.acct.log.records.length
                ∧ (let v := raiseHold .log { s with link := s.link.addReport ⟨.logLow, be16 fill⟩ }
                  u.acct.header = v.acct.header ∧ u.control = v.control ∧ u.link = v.link))
          ∧ u = { openJournal s with
              acct := u.acct, journal := u.journal, table := u.table, control := u.control, link := u.link }))
end

