-- ==== Sys2Proof/Laws/State.lean ====
section
/-! SUPPORT. One lemma per field of State per update, each true by rfl, and the laws of the per-ply and per-line
vectors, so that no later proof unfolds a record update. -/

namespace Sys2Proof

@[simp] theorem PerPly.get_const {α : Type} (x : α) (p : Ply) : (PerPly.const x).get p = x := by cases p <;> rfl
@[simp] theorem PerPly.get_ofFn {α : Type} (f : Ply → α) (p : Ply) : (PerPly.ofFn f).get p = f p := by cases p <;> rfl
@[simp] theorem PerPly.get_set_self {α : Type} (v : PerPly α) (p : Ply) (x : α) : (v.set p x).get p = x := by
  cases p <;> rfl
theorem PerPly.get_set_ne {α : Type} (v : PerPly α) {p q : Ply} (x : α) (h : q ≠ p) : (v.set p x).get q = v.get q := by
  cases p <;> cases q <;> first | rfl | exact absurd rfl h
theorem PerPly.get_set {α : Type} (v : PerPly α) (p q : Ply) (x : α) :
    (v.set p x).get q = if q = p then x else v.get q := by
  cases p <;> cases q <;> rfl
@[simp] theorem PerPly.set_get {α : Type} (v : PerPly α) (p : Ply) : v.set p (v.get p) = v := by cases p <;> rfl
@[simp] theorem PerPly.set_set {α : Type} (v : PerPly α) (p : Ply) (x y : α) : (v.set p x).set p y = v.set p y := by
  cases p <;> rfl
@[simp] theorem PerLine.get_const {α : Type} (x : α) (l : LineId) : (PerLine.const x).get l = x := by
  cases l with
  | spl p => cases p <;> rfl
  | _ => rfl
@[simp] theorem PerLine.get_ofFn {α : Type} (f : LineId → α) (l : LineId) : (PerLine.ofFn f).get l = f l := by
  cases l with
  | spl p => cases p <;> rfl
  | _ => rfl
@[simp] theorem PerLine.get_set_self {α : Type} (v : PerLine α) (l : LineId) (x : α) : (v.set l x).get l = x := by
  cases l with
  | spl p => cases p <;> rfl
  | _ => rfl
theorem PerLine.get_set_ne {α : Type} (v : PerLine α) {l m : LineId} (x : α) (h : m ≠ l) :
    (v.set l x).get m = v.get m := by
  cases l with
  | spl p =>
    cases m with
    | spl q =>
      have hq : q ≠ p := fun e => h (by rw [e])
      show (v.spl.set p x).get q = v.spl.get q
      exact PerPly.get_set_ne v.spl x hq
    | _ => rfl
  | _ =>
    cases m with
    | spl q => rfl
    | _ => first | rfl | exact absurd rfl h

namespace Machine

/-! `mapAcct` -/

@[simp] theorem State.mapAcct_pending (s : State) (f : Accounting → Accounting) : (s.mapAcct f).pending = s.pending := rfl
@[simp] theorem State.mapAcct_part (s : State) (f : Accounting → Accounting) : (s.mapAcct f).part = s.part := rfl
@[simp] theorem State.mapAcct_link (s : State) (f : Accounting → Accounting) : (s.mapAcct f).link = s.link := rfl
@[simp] theorem State.mapAcct_rxControl (s : State) (f : Accounting → Accounting) : (s.mapAcct f).rxControl = s.rxControl := rfl
@[simp] theorem State.mapAcct_rxHead (s : State) (f : Accounting → Accounting) : (s.mapAcct f).rxHead = s.rxHead := rfl
@[simp] theorem State.mapAcct_rxReader (s : State) (f : Accounting → Accounting) : (s.mapAcct f).rxReader = s.rxReader := rfl
@[simp] theorem State.mapAcct_headTx (s : State) (f : Accounting → Accounting) : (s.mapAcct f).headTx = s.headTx := rfl
@[simp] theorem State.mapAcct_lines (s : State) (f : Accounting → Accounting) : (s.mapAcct f).lines = s.lines := rfl
@[simp] theorem State.mapAcct_tracker (s : State) (f : Accounting → Accounting) : (s.mapAcct f).tracker = s.tracker := rfl
@[simp] theorem State.mapAcct_table (s : State) (f : Accounting → Accounting) : (s.mapAcct f).table = s.table := rfl
@[simp] theorem State.mapAcct_fitted (s : State) (f : Accounting → Accounting) : (s.mapAcct f).fitted = s.fitted := rfl
@[simp] theorem State.mapAcct_heads (s : State) (f : Accounting → Accounting) : (s.mapAcct f).heads = s.heads := rfl
@[simp] theorem State.mapAcct_reader (s : State) (f : Accounting → Accounting) : (s.mapAcct f).reader = s.reader := rfl
@[simp] theorem State.mapAcct_gate (s : State) (f : Accounting → Accounting) : (s.mapAcct f).gate = s.gate := rfl
@[simp] theorem State.mapAcct_control (s : State) (f : Accounting → Accounting) : (s.mapAcct f).control = s.control := rfl
@[simp] theorem State.mapAcct_acct (s : State) (f : Accounting → Accounting) : (s.mapAcct f).acct = f s.acct := rfl
@[simp] theorem State.mapAcct_journal (s : State) (f : Accounting → Accounting) : (s.mapAcct f).journal = s.journal := rfl

/-! `mapHeader` -/

@[simp] theorem State.mapHeader_pending (s : State) (f : Header → Header) : (s.mapHeader f).pending = s.pending := rfl
@[simp] theorem State.mapHeader_part (s : State) (f : Header → Header) : (s.mapHeader f).part = s.part := rfl
@[simp] theorem State.mapHeader_link (s : State) (f : Header → Header) : (s.mapHeader f).link = s.link := rfl
@[simp] theorem State.mapHeader_rxControl (s : State) (f : Header → Header) : (s.mapHeader f).rxControl = s.rxControl := rfl
@[simp] theorem State.mapHeader_rxHead (s : State) (f : Header → Header) : (s.mapHeader f).rxHead = s.rxHead := rfl
@[simp] theorem State.mapHeader_rxReader (s : State) (f : Header → Header) : (s.mapHeader f).rxReader = s.rxReader := rfl
@[simp] theorem State.mapHeader_headTx (s : State) (f : Header → Header) : (s.mapHeader f).headTx = s.headTx := rfl
@[simp] theorem State.mapHeader_lines (s : State) (f : Header → Header) : (s.mapHeader f).lines = s.lines := rfl
@[simp] theorem State.mapHeader_tracker (s : State) (f : Header → Header) : (s.mapHeader f).tracker = s.tracker := rfl
@[simp] theorem State.mapHeader_table (s : State) (f : Header → Header) : (s.mapHeader f).table = s.table := rfl
@[simp] theorem State.mapHeader_fitted (s : State) (f : Header → Header) : (s.mapHeader f).fitted = s.fitted := rfl
@[simp] theorem State.mapHeader_heads (s : State) (f : Header → Header) : (s.mapHeader f).heads = s.heads := rfl
@[simp] theorem State.mapHeader_reader (s : State) (f : Header → Header) : (s.mapHeader f).reader = s.reader := rfl
@[simp] theorem State.mapHeader_gate (s : State) (f : Header → Header) : (s.mapHeader f).gate = s.gate := rfl
@[simp] theorem State.mapHeader_control (s : State) (f : Header → Header) : (s.mapHeader f).control = s.control := rfl
@[simp] theorem State.mapHeader_acct (s : State) (f : Header → Header) : (s.mapHeader f).acct = { s.acct with header := f s.acct.header } := rfl
@[simp] theorem State.mapHeader_journal (s : State) (f : Header → Header) : (s.mapHeader f).journal = s.journal := rfl

/-! `mapCounters` -/

@[simp] theorem State.mapCounters_pending (s : State) (f : Counters → Counters) : (s.mapCounters f).pending = s.pending := rfl
@[simp] theorem State.mapCounters_part (s : State) (f : Counters → Counters) : (s.mapCounters f).part = s.part := rfl
@[simp] theorem State.mapCounters_link (s : State) (f : Counters → Counters) : (s.mapCounters f).link = s.link := rfl
@[simp] theorem State.mapCounters_rxControl (s : State) (f : Counters → Counters) : (s.mapCounters f).rxControl = s.rxControl := rfl
@[simp] theorem State.mapCounters_rxHead (s : State) (f : Counters → Counters) : (s.mapCounters f).rxHead = s.rxHead := rfl
@[simp] theorem State.mapCounters_rxReader (s : State) (f : Counters → Counters) : (s.mapCounters f).rxReader = s.rxReader := rfl
@[simp] theorem State.mapCounters_headTx (s : State) (f : Counters → Counters) : (s.mapCounters f).headTx = s.headTx := rfl
@[simp] theorem State.mapCounters_lines (s : State) (f : Counters → Counters) : (s.mapCounters f).lines = s.lines := rfl
@[simp] theorem State.mapCounters_tracker (s : State) (f : Counters → Counters) : (s.mapCounters f).tracker = s.tracker := rfl
@[simp] theorem State.mapCounters_table (s : State) (f : Counters → Counters) : (s.mapCounters f).table = s.table := rfl
@[simp] theorem State.mapCounters_fitted (s : State) (f : Counters → Counters) : (s.mapCounters f).fitted = s.fitted := rfl
@[simp] theorem State.mapCounters_heads (s : State) (f : Counters → Counters) : (s.mapCounters f).heads = s.heads := rfl
@[simp] theorem State.mapCounters_reader (s : State) (f : Counters → Counters) : (s.mapCounters f).reader = s.reader := rfl
@[simp] theorem State.mapCounters_gate (s : State) (f : Counters → Counters) : (s.mapCounters f).gate = s.gate := rfl
@[simp] theorem State.mapCounters_control (s : State) (f : Counters → Counters) : (s.mapCounters f).control = s.control := rfl
@[simp] theorem State.mapCounters_acct (s : State) (f : Counters → Counters) : (s.mapCounters f).acct = { s.acct with counters := f s.acct.counters } := rfl
@[simp] theorem State.mapCounters_journal (s : State) (f : Counters → Counters) : (s.mapCounters f).journal = s.journal := rfl

/-! `mapLink` -/

@[simp] theorem State.mapLink_pending (s : State) (f : Link → Link) : (s.mapLink f).pending = s.pending := rfl
@[simp] theorem State.mapLink_part (s : State) (f : Link → Link) : (s.mapLink f).part = s.part := rfl
@[simp] theorem State.mapLink_link (s : State) (f : Link → Link) : (s.mapLink f).link = f s.link := rfl
@[simp] theorem State.mapLink_rxControl (s : State) (f : Link → Link) : (s.mapLink f).rxControl = s.rxControl := rfl
@[simp] theorem State.mapLink_rxHead (s : State) (f : Link → Link) : (s.mapLink f).rxHead = s.rxHead := rfl
@[simp] theorem State.mapLink_rxReader (s : State) (f : Link → Link) : (s.mapLink f).rxReader = s.rxReader := rfl
@[simp] theorem State.mapLink_headTx (s : State) (f : Link → Link) : (s.mapLink f).headTx = s.headTx := rfl
@[simp] theorem State.mapLink_lines (s : State) (f : Link → Link) : (s.mapLink f).lines = s.lines := rfl
@[simp] theorem State.mapLink_tracker (s : State) (f : Link → Link) : (s.mapLink f).tracker = s.tracker := rfl
@[simp] theorem State.mapLink_table (s : State) (f : Link → Link) : (s.mapLink f).table = s.table := rfl
@[simp] theorem State.mapLink_fitted (s : State) (f : Link → Link) : (s.mapLink f).fitted = s.fitted := rfl
@[simp] theorem State.mapLink_heads (s : State) (f : Link → Link) : (s.mapLink f).heads = s.heads := rfl
@[simp] theorem State.mapLink_reader (s : State) (f : Link → Link) : (s.mapLink f).reader = s.reader := rfl
@[simp] theorem State.mapLink_gate (s : State) (f : Link → Link) : (s.mapLink f).gate = s.gate := rfl
@[simp] theorem State.mapLink_control (s : State) (f : Link → Link) : (s.mapLink f).control = s.control := rfl
@[simp] theorem State.mapLink_acct (s : State) (f : Link → Link) : (s.mapLink f).acct = s.acct := rfl
@[simp] theorem State.mapLink_journal (s : State) (f : Link → Link) : (s.mapLink f).journal = s.journal := rfl

/-! `mapTracker` -/

@[simp] theorem State.mapTracker_pending (s : State) (f : Tracker → Tracker) : (s.mapTracker f).pending = s.pending := rfl
@[simp] theorem State.mapTracker_part (s : State) (f : Tracker → Tracker) : (s.mapTracker f).part = s.part := rfl
@[simp] theorem State.mapTracker_link (s : State) (f : Tracker → Tracker) : (s.mapTracker f).link = s.link := rfl
@[simp] theorem State.mapTracker_rxControl (s : State) (f : Tracker → Tracker) : (s.mapTracker f).rxControl = s.rxControl := rfl
@[simp] theorem State.mapTracker_rxHead (s : State) (f : Tracker → Tracker) : (s.mapTracker f).rxHead = s.rxHead := rfl
@[simp] theorem State.mapTracker_rxReader (s : State) (f : Tracker → Tracker) : (s.mapTracker f).rxReader = s.rxReader := rfl
@[simp] theorem State.mapTracker_headTx (s : State) (f : Tracker → Tracker) : (s.mapTracker f).headTx = s.headTx := rfl
@[simp] theorem State.mapTracker_lines (s : State) (f : Tracker → Tracker) : (s.mapTracker f).lines = s.lines := rfl
@[simp] theorem State.mapTracker_tracker (s : State) (f : Tracker → Tracker) : (s.mapTracker f).tracker = f s.tracker := rfl
@[simp] theorem State.mapTracker_table (s : State) (f : Tracker → Tracker) : (s.mapTracker f).table = s.table := rfl
@[simp] theorem State.mapTracker_fitted (s : State) (f : Tracker → Tracker) : (s.mapTracker f).fitted = s.fitted := rfl
@[simp] theorem State.mapTracker_heads (s : State) (f : Tracker → Tracker) : (s.mapTracker f).heads = s.heads := rfl
@[simp] theorem State.mapTracker_reader (s : State) (f : Tracker → Tracker) : (s.mapTracker f).reader = s.reader := rfl
@[simp] theorem State.mapTracker_gate (s : State) (f : Tracker → Tracker) : (s.mapTracker f).gate = s.gate := rfl
@[simp] theorem State.mapTracker_control (s : State) (f : Tracker → Tracker) : (s.mapTracker f).control = s.control := rfl
@[simp] theorem State.mapTracker_acct (s : State) (f : Tracker → Tracker) : (s.mapTracker f).acct = s.acct := rfl
@[simp] theorem State.mapTracker_journal (s : State) (f : Tracker → Tracker) : (s.mapTracker f).journal = s.journal := rfl

/-! `mapTable` -/

@[simp] theorem State.mapTable_pending (s : State) (f : SetTable → SetTable) : (s.mapTable f).pending = s.pending := rfl
@[simp] theorem State.mapTable_part (s : State) (f : SetTable → SetTable) : (s.mapTable f).part = s.part := rfl
@[simp] theorem State.mapTable_link (s : State) (f : SetTable → SetTable) : (s.mapTable f).link = s.link := rfl
@[simp] theorem State.mapTable_rxControl (s : State) (f : SetTable → SetTable) : (s.mapTable f).rxControl = s.rxControl := rfl
@[simp] theorem State.mapTable_rxHead (s : State) (f : SetTable → SetTable) : (s.mapTable f).rxHead = s.rxHead := rfl
@[simp] theorem State.mapTable_rxReader (s : State) (f : SetTable → SetTable) : (s.mapTable f).rxReader = s.rxReader := rfl
@[simp] theorem State.mapTable_headTx (s : State) (f : SetTable → SetTable) : (s.mapTable f).headTx = s.headTx := rfl
@[simp] theorem State.mapTable_lines (s : State) (f : SetTable → SetTable) : (s.mapTable f).lines = s.lines := rfl
@[simp] theorem State.mapTable_tracker (s : State) (f : SetTable → SetTable) : (s.mapTable f).tracker = s.tracker := rfl
@[simp] theorem State.mapTable_table (s : State) (f : SetTable → SetTable) : (s.mapTable f).table = f s.table := rfl
@[simp] theorem State.mapTable_fitted (s : State) (f : SetTable → SetTable) : (s.mapTable f).fitted = s.fitted := rfl
@[simp] theorem State.mapTable_heads (s : State) (f : SetTable → SetTable) : (s.mapTable f).heads = s.heads := rfl
@[simp] theorem State.mapTable_reader (s : State) (f : SetTable → SetTable) : (s.mapTable f).reader = s.reader := rfl
@[simp] theorem State.mapTable_gate (s : State) (f : SetTable → SetTable) : (s.mapTable f).gate = s.gate := rfl
@[simp] theorem State.mapTable_control (s : State) (f : SetTable → SetTable) : (s.mapTable f).control = s.control := rfl
@[simp] theorem State.mapTable_acct (s : State) (f : SetTable → SetTable) : (s.mapTable f).acct = s.acct := rfl
@[simp] theorem State.mapTable_journal (s : State) (f : SetTable → SetTable) : (s.mapTable f).journal = s.journal := rfl

/-! `mapHead` -/

@[simp] theorem State.mapHead_pending (s : State) (p : Ply) (f : Channel → Channel) : (s.mapHead p f).pending = s.pending := rfl
@[simp] theorem State.mapHead_part (s : State) (p : Ply) (f : Channel → Channel) : (s.mapHead p f).part = s.part := rfl
@[simp] theorem State.mapHead_link (s : State) (p : Ply) (f : Channel → Channel) : (s.mapHead p f).link = s.link := rfl
@[simp] theorem State.mapHead_rxControl (s : State) (p : Ply) (f : Channel → Channel) : (s.mapHead p f).rxControl = s.rxControl := rfl
@[simp] theorem State.mapHead_rxHead (s : State) (p : Ply) (f : Channel → Channel) : (s.mapHead p f).rxHead = s.rxHead := rfl
@[simp] theorem State.mapHead_rxReader (s : State) (p : Ply) (f : Channel → Channel) : (s.mapHead p f).rxReader = s.rxReader := rfl
@[simp] theorem State.mapHead_headTx (s : State) (p : Ply) (f : Channel → Channel) : (s.mapHead p f).headTx = s.headTx := rfl
@[simp] theorem State.mapHead_lines (s : State) (p : Ply) (f : Channel → Channel) : (s.mapHead p f).lines = s.lines := rfl
@[simp] theorem State.mapHead_tracker (s : State) (p : Ply) (f : Channel → Channel) : (s.mapHead p f).tracker = s.tracker := rfl
@[simp] theorem State.mapHead_table (s : State) (p : Ply) (f : Channel → Channel) : (s.mapHead p f).table = s.table := rfl
@[simp] theorem State.mapHead_fitted (s : State) (p : Ply) (f : Channel → Channel) : (s.mapHead p f).fitted = s.fitted := rfl
@[simp] theorem State.mapHead_heads (s : State) (p : Ply) (f : Channel → Channel) : (s.mapHead p f).heads = s.heads.set p (f (s.heads.get p)) := rfl
@[simp] theorem State.mapHead_reader (s : State) (p : Ply) (f : Channel → Channel) : (s.mapHead p f).reader = s.reader := rfl
@[simp] theorem State.mapHead_gate (s : State) (p : Ply) (f : Channel → Channel) : (s.mapHead p f).gate = s.gate := rfl
@[simp] theorem State.mapHead_control (s : State) (p : Ply) (f : Channel → Channel) : (s.mapHead p f).control = s.control := rfl
@[simp] theorem State.mapHead_acct (s : State) (p : Ply) (f : Channel → Channel) : (s.mapHead p f).acct = s.acct := rfl
@[simp] theorem State.mapHead_journal (s : State) (p : Ply) (f : Channel → Channel) : (s.mapHead p f).journal = s.journal := rfl

/-! `mapReader` -/

@[simp] theorem State.mapReader_pending (s : State) (f : Reader → Reader) : (s.mapReader f).pending = s.pending := rfl
@[simp] theorem State.mapReader_part (s : State) (f : Reader → Reader) : (s.mapReader f).part = s.part := rfl
@[simp] theorem State.mapReader_link (s : State) (f : Reader → Reader) : (s.mapReader f).link = s.link := rfl
@[simp] theorem State.mapReader_rxControl (s : State) (f : Reader → Reader) : (s.mapReader f).rxControl = s.rxControl := rfl
@[simp] theorem State.mapReader_rxHead (s : State) (f : Reader → Reader) : (s.mapReader f).rxHead = s.rxHead := rfl
@[simp] theorem State.mapReader_rxReader (s : State) (f : Reader → Reader) : (s.mapReader f).rxReader = s.rxReader := rfl
@[simp] theorem State.mapReader_headTx (s : State) (f : Reader → Reader) : (s.mapReader f).headTx = s.headTx := rfl
@[simp] theorem State.mapReader_lines (s : State) (f : Reader → Reader) : (s.mapReader f).lines = s.lines := rfl
@[simp] theorem State.mapReader_tracker (s : State) (f : Reader → Reader) : (s.mapReader f).tracker = s.tracker := rfl
@[simp] theorem State.mapReader_table (s : State) (f : Reader → Reader) : (s.mapReader f).table = s.table := rfl
@[simp] theorem State.mapReader_fitted (s : State) (f : Reader → Reader) : (s.mapReader f).fitted = s.fitted := rfl
@[simp] theorem State.mapReader_heads (s : State) (f : Reader → Reader) : (s.mapReader f).heads = s.heads := rfl
@[simp] theorem State.mapReader_reader (s : State) (f : Reader → Reader) : (s.mapReader f).reader = f s.reader := rfl
@[simp] theorem State.mapReader_gate (s : State) (f : Reader → Reader) : (s.mapReader f).gate = s.gate := rfl
@[simp] theorem State.mapReader_control (s : State) (f : Reader → Reader) : (s.mapReader f).control = s.control := rfl
@[simp] theorem State.mapReader_acct (s : State) (f : Reader → Reader) : (s.mapReader f).acct = s.acct := rfl
@[simp] theorem State.mapReader_journal (s : State) (f : Reader → Reader) : (s.mapReader f).journal = s.journal := rfl

/-! `mapGate` -/

@[simp] theorem State.mapGate_pending (s : State) (f : Gate → Gate) : (s.mapGate f).pending = s.pending := rfl
@[simp] theorem State.mapGate_part (s : State) (f : Gate → Gate) : (s.mapGate f).part = s.part := rfl
@[simp] theorem State.mapGate_link (s : State) (f : Gate → Gate) : (s.mapGate f).link = s.link := rfl
@[simp] theorem State.mapGate_rxControl (s : State) (f : Gate → Gate) : (s.mapGate f).rxControl = s.rxControl := rfl
@[simp] theorem State.mapGate_rxHead (s : State) (f : Gate → Gate) : (s.mapGate f).rxHead = s.rxHead := rfl
@[simp] theorem State.mapGate_rxReader (s : State) (f : Gate → Gate) : (s.mapGate f).rxReader = s.rxReader := rfl
@[simp] theorem State.mapGate_headTx (s : State) (f : Gate → Gate) : (s.mapGate f).headTx = s.headTx := rfl
@[simp] theorem State.mapGate_lines (s : State) (f : Gate → Gate) : (s.mapGate f).lines = s.lines := rfl
@[simp] theorem State.mapGate_tracker (s : State) (f : Gate → Gate) : (s.mapGate f).tracker = s.tracker := rfl
@[simp] theorem State.mapGate_table (s : State) (f : Gate → Gate) : (s.mapGate f).table = s.table := rfl
@[simp] theorem State.mapGate_fitted (s : State) (f : Gate → Gate) : (s.mapGate f).fitted = s.fitted := rfl
@[simp] theorem State.mapGate_heads (s : State) (f : Gate → Gate) : (s.mapGate f).heads = s.heads := rfl
@[simp] theorem State.mapGate_reader (s : State) (f : Gate → Gate) : (s.mapGate f).reader = s.reader := rfl
@[simp] theorem State.mapGate_gate (s : State) (f : Gate → Gate) : (s.mapGate f).gate = f s.gate := rfl
@[simp] theorem State.mapGate_control (s : State) (f : Gate → Gate) : (s.mapGate f).control = s.control := rfl
@[simp] theorem State.mapGate_acct (s : State) (f : Gate → Gate) : (s.mapGate f).acct = s.acct := rfl
@[simp] theorem State.mapGate_journal (s : State) (f : Gate → Gate) : (s.mapGate f).journal = s.journal := rfl

/-! `mapControl` -/

@[simp] theorem State.mapControl_pending (s : State) (f : Control → Control) : (s.mapControl f).pending = s.pending := rfl
@[simp] theorem State.mapControl_part (s : State) (f : Control → Control) : (s.mapControl f).part = s.part := rfl
@[simp] theorem State.mapControl_link (s : State) (f : Control → Control) : (s.mapControl f).link = s.link := rfl
@[simp] theorem State.mapControl_rxControl (s : State) (f : Control → Control) : (s.mapControl f).rxControl = s.rxControl := rfl
@[simp] theorem State.mapControl_rxHead (s : State) (f : Control → Control) : (s.mapControl f).rxHead = s.rxHead := rfl
@[simp] theorem State.mapControl_rxReader (s : State) (f : Control → Control) : (s.mapControl f).rxReader = s.rxReader := rfl
@[simp] theorem State.mapControl_headTx (s : State) (f : Control → Control) : (s.mapControl f).headTx = s.headTx := rfl
@[simp] theorem State.mapControl_lines (s : State) (f : Control → Control) : (s.mapControl f).lines = s.lines := rfl
@[simp] theorem State.mapControl_tracker (s : State) (f : Control → Control) : (s.mapControl f).tracker = s.tracker := rfl
@[simp] theorem State.mapControl_table (s : State) (f : Control → Control) : (s.mapControl f).table = s.table := rfl
@[simp] theorem State.mapControl_fitted (s : State) (f : Control → Control) : (s.mapControl f).fitted = s.fitted := rfl
@[simp] theorem State.mapControl_heads (s : State) (f : Control → Control) : (s.mapControl f).heads = s.heads := rfl
@[simp] theorem State.mapControl_reader (s : State) (f : Control → Control) : (s.mapControl f).reader = s.reader := rfl
@[simp] theorem State.mapControl_gate (s : State) (f : Control → Control) : (s.mapControl f).gate = s.gate := rfl
@[simp] theorem State.mapControl_control (s : State) (f : Control → Control) : (s.mapControl f).control = f s.control := rfl
@[simp] theorem State.mapControl_acct (s : State) (f : Control → Control) : (s.mapControl f).acct = s.acct := rfl
@[simp] theorem State.mapControl_journal (s : State) (f : Control → Control) : (s.mapControl f).journal = s.journal := rfl

/-! `mapLines` -/

@[simp] theorem State.mapLines_pending (s : State) (f : LineUnit → LineUnit) : (s.mapLines f).pending = s.pending := rfl
@[simp] theorem State.mapLines_part (s : State) (f : LineUnit → LineUnit) : (s.mapLines f).part = s.part := rfl
@[simp] theorem State.mapLines_link (s : State) (f : LineUnit → LineUnit) : (s.mapLines f).link = s.link := rfl
@[simp] theorem State.mapLines_rxControl (s : State) (f : LineUnit → LineUnit) : (s.mapLines f).rxControl = s.rxControl := rfl
@[simp] theorem State.mapLines_rxHead (s : State) (f : LineUnit → LineUnit) : (s.mapLines f).rxHead = s.rxHead := rfl
@[simp] theorem State.mapLines_rxReader (s : State) (f : LineUnit → LineUnit) : (s.mapLines f).rxReader = s.rxReader := rfl
@[simp] theorem State.mapLines_headTx (s : State) (f : LineUnit → LineUnit) : (s.mapLines f).headTx = s.headTx := rfl
@[simp] theorem State.mapLines_lines (s : State) (f : LineUnit → LineUnit) : (s.mapLines f).lines = f s.lines := rfl
@[simp] theorem State.mapLines_tracker (s : State) (f : LineUnit → LineUnit) : (s.mapLines f).tracker = s.tracker := rfl
@[simp] theorem State.mapLines_table (s : State) (f : LineUnit → LineUnit) : (s.mapLines f).table = s.table := rfl
@[simp] theorem State.mapLines_fitted (s : State) (f : LineUnit → LineUnit) : (s.mapLines f).fitted = s.fitted := rfl
@[simp] theorem State.mapLines_heads (s : State) (f : LineUnit → LineUnit) : (s.mapLines f).heads = s.heads := rfl
@[simp] theorem State.mapLines_reader (s : State) (f : LineUnit → LineUnit) : (s.mapLines f).reader = s.reader := rfl
@[simp] theorem State.mapLines_gate (s : State) (f : LineUnit → LineUnit) : (s.mapLines f).gate = s.gate := rfl
@[simp] theorem State.mapLines_control (s : State) (f : LineUnit → LineUnit) : (s.mapLines f).control = s.control := rfl
@[simp] theorem State.mapLines_acct (s : State) (f : LineUnit → LineUnit) : (s.mapLines f).acct = s.acct := rfl
@[simp] theorem State.mapLines_journal (s : State) (f : LineUnit → LineUnit) : (s.mapLines f).journal = s.journal := rfl

/-! `endWrite` -/

@[simp] theorem endWrite_pending (s : State) : (endWrite s).pending = s.pending := rfl
@[simp] theorem endWrite_part (s : State) : (endWrite s).part = s.part := rfl
@[simp] theorem endWrite_link (s : State) : (endWrite s).link = s.link := rfl
@[simp] theorem endWrite_rxControl (s : State) : (endWrite s).rxControl = s.rxControl := rfl
@[simp] theorem endWrite_rxHead (s : State) : (endWrite s).rxHead = s.rxHead := rfl
@[simp] theorem endWrite_rxReader (s : State) : (endWrite s).rxReader = s.rxReader := rfl
@[simp] theorem endWrite_headTx (s : State) : (endWrite s).headTx = s.headTx := rfl
@[simp] theorem endWrite_lines (s : State) : (endWrite s).lines = s.lines := rfl
@[simp] theorem endWrite_tracker (s : State) : (endWrite s).tracker = s.tracker := rfl
@[simp] theorem endWrite_table (s : State) : (endWrite s).table = s.table := rfl
@[simp] theorem endWrite_fitted (s : State) : (endWrite s).fitted = s.fitted := rfl
@[simp] theorem endWrite_heads (s : State) : (endWrite s).heads = s.heads := rfl
@[simp] theorem endWrite_reader (s : State) : (endWrite s).reader = s.reader := rfl
@[simp] theorem endWrite_gate (s : State) : (endWrite s).gate = s.gate := rfl
@[simp] theorem endWrite_control (s : State) : (endWrite s).control = s.control := rfl
@[simp] theorem endWrite_acct (s : State) : (endWrite s).acct = s.acct := rfl
@[simp] theorem endWrite_journal (s : State) : (endWrite s).journal = s.acct :: s.journal := rfl

/-! `openJournal` -/

@[simp] theorem openJournal_pending (s : State) : (openJournal s).pending = s.pending := rfl
@[simp] theorem openJournal_part (s : State) : (openJournal s).part = s.part := rfl
@[simp] theorem openJournal_link (s : State) : (openJournal s).link = s.link := rfl
@[simp] theorem openJournal_rxControl (s : State) : (openJournal s).rxControl = s.rxControl := rfl
@[simp] theorem openJournal_rxHead (s : State) : (openJournal s).rxHead = s.rxHead := rfl
@[simp] theorem openJournal_rxReader (s : State) : (openJournal s).rxReader = s.rxReader := rfl
@[simp] theorem openJournal_headTx (s : State) : (openJournal s).headTx = s.headTx := rfl
@[simp] theorem openJournal_lines (s : State) : (openJournal s).lines = s.lines := rfl
@[simp] theorem openJournal_tracker (s : State) : (openJournal s).tracker = s.tracker := rfl
@[simp] theorem openJournal_table (s : State) : (openJournal s).table = s.table := rfl
@[simp] theorem openJournal_fitted (s : State) : (openJournal s).fitted = s.fitted := rfl
@[simp] theorem openJournal_heads (s : State) : (openJournal s).heads = s.heads := rfl
@[simp] theorem openJournal_reader (s : State) : (openJournal s).reader = s.reader := rfl
@[simp] theorem openJournal_gate (s : State) : (openJournal s).gate = s.gate := rfl
@[simp] theorem openJournal_control (s : State) : (openJournal s).control = s.control := rfl
@[simp] theorem openJournal_acct (s : State) : (openJournal s).acct = s.acct := rfl
@[simp] theorem openJournal_journal (s : State) : (openJournal s).journal = [s.acct] := rfl

/-! `raiseReport` -/

@[simp] theorem raiseReport_pending (s : State) (r : Report) : (raiseReport r s).pending = s.pending := rfl
@[simp] theorem raiseReport_part (s : State) (r : Report) : (raiseReport r s).part = s.part := rfl
@[simp] theorem raiseReport_link (s : State) (r : Report) : (raiseReport r s).link = s.link.addReport r := rfl
@[simp] theorem raiseReport_rxControl (s : State) (r : Report) : (raiseReport r s).rxControl = s.rxControl := rfl
@[simp] theorem raiseReport_rxHead (s : State) (r : Report) : (raiseReport r s).rxHead = s.rxHead := rfl
@[simp] theorem raiseReport_rxReader (s : State) (r : Report) : (raiseReport r s).rxReader = s.rxReader := rfl
@[simp] theorem raiseReport_headTx (s : State) (r : Report) : (raiseReport r s).headTx = s.headTx := rfl
@[simp] theorem raiseReport_lines (s : State) (r : Report) : (raiseReport r s).lines = s.lines := rfl
@[simp] theorem raiseReport_tracker (s : State) (r : Report) : (raiseReport r s).tracker = s.tracker := rfl
@[simp] theorem raiseReport_table (s : State) (r : Report) : (raiseReport r s).table = s.table := rfl
@[simp] theorem raiseReport_fitted (s : State) (r : Report) : (raiseReport r s).fitted = s.fitted := rfl
@[simp] theorem raiseReport_heads (s : State) (r : Report) : (raiseReport r s).heads = s.heads := rfl
@[simp] theorem raiseReport_reader (s : State) (r : Report) : (raiseReport r s).reader = s.reader := rfl
@[simp] theorem raiseReport_gate (s : State) (r : Report) : (raiseReport r s).gate = s.gate := rfl
@[simp] theorem raiseReport_control (s : State) (r : Report) : (raiseReport r s).control = s.control := rfl
@[simp] theorem raiseReport_acct (s : State) (r : Report) : (raiseReport r s).acct = s.acct := rfl
@[simp] theorem raiseReport_journal (s : State) (r : Report) : (raiseReport r s).journal = s.journal := rfl

/-! `setHold` -/

@[simp] theorem setHold_pending (s : State) (c : HoldCause) (b : Bool) : (setHold c b s).pending = s.pending := rfl
@[simp] theorem setHold_part (s : State) (c : HoldCause) (b : Bool) : (setHold c b s).part = s.part := rfl
@[simp] theorem setHold_link (s : State) (c : HoldCause) (b : Bool) : (setHold c b s).link = s.link := rfl
@[simp] theorem setHold_rxControl (s : State) (c : HoldCause) (b : Bool) : (setHold c b s).rxControl = s.rxControl := rfl
@[simp] theorem setHold_rxHead (s : State) (c : HoldCause) (b : Bool) : (setHold c b s).rxHead = s.rxHead := rfl
@[simp] theorem setHold_rxReader (s : State) (c : HoldCause) (b : Bool) : (setHold c b s).rxReader = s.rxReader := rfl
@[simp] theorem setHold_headTx (s : State) (c : HoldCause) (b : Bool) : (setHold c b s).headTx = s.headTx := rfl
@[simp] theorem setHold_lines (s : State) (c : HoldCause) (b : Bool) : (setHold c b s).lines = s.lines := rfl
@[simp] theorem setHold_tracker (s : State) (c : HoldCause) (b : Bool) : (setHold c b s).tracker = s.tracker := rfl
@[simp] theorem setHold_table (s : State) (c : HoldCause) (b : Bool) : (setHold c b s).table = s.table := rfl
@[simp] theorem setHold_fitted (s : State) (c : HoldCause) (b : Bool) : (setHold c b s).fitted = s.fitted := rfl
@[simp] theorem setHold_heads (s : State) (c : HoldCause) (b : Bool) : (setHold c b s).heads = s.heads := rfl
@[simp] theorem setHold_reader (s : State) (c : HoldCause) (b : Bool) : (setHold c b s).reader = s.reader := rfl
@[simp] theorem setHold_gate (s : State) (c : HoldCause) (b : Bool) : (setHold c b s).gate = s.gate := rfl
@[simp] theorem setHold_control (s : State) (c : HoldCause) (b : Bool) : (setHold c b s).control = { s.control with holds := s.control.holds.put c b } := rfl
@[simp] theorem setHold_acct (s : State) (c : HoldCause) (b : Bool) : (setHold c b s).acct = s.acct := rfl
@[simp] theorem setHold_journal (s : State) (c : HoldCause) (b : Bool) : (setHold c b s).journal = s.journal := rfl

/-! `unlatch` -/

@[simp] theorem unlatch_pending (s : State) (c : StopCause) : (unlatch c s).pending = s.pending := rfl
@[simp] theorem unlatch_part (s : State) (c : StopCause) : (unlatch c s).part = s.part := rfl
@[simp] theorem unlatch_link (s : State) (c : StopCause) : (unlatch c s).link = s.link := rfl
@[simp] theorem unlatch_rxControl (s : State) (c : StopCause) : (unlatch c s).rxControl = s.rxControl := rfl
@[simp] theorem unlatch_rxHead (s : State) (c : StopCause) : (unlatch c s).rxHead = s.rxHead := rfl
@[simp] theorem unlatch_rxReader (s : State) (c : StopCause) : (unlatch c s).rxReader = s.rxReader := rfl
@[simp] theorem unlatch_headTx (s : State) (c : StopCause) : (unlatch c s).headTx = s.headTx := rfl
@[simp] theorem unlatch_lines (s : State) (c : StopCause) : (unlatch c s).lines = s.lines := rfl
@[simp] theorem unlatch_tracker (s : State) (c : StopCause) : (unlatch c s).tracker = s.tracker := rfl
@[simp] theorem unlatch_table (s : State) (c : StopCause) : (unlatch c s).table = s.table := rfl
@[simp] theorem unlatch_fitted (s : State) (c : StopCause) : (unlatch c s).fitted = s.fitted := rfl
@[simp] theorem unlatch_heads (s : State) (c : StopCause) : (unlatch c s).heads = s.heads := rfl
@[simp] theorem unlatch_reader (s : State) (c : StopCause) : (unlatch c s).reader = s.reader := rfl
@[simp] theorem unlatch_gate (s : State) (c : StopCause) : (unlatch c s).gate = s.gate := rfl
@[simp] theorem unlatch_control (s : State) (c : StopCause) : (unlatch c s).control = { s.control with stops := s.control.stops.put c false } := rfl
@[simp] theorem unlatch_acct (s : State) (c : StopCause) : (unlatch c s).acct = s.acct := rfl
@[simp] theorem unlatch_journal (s : State) (c : StopCause) : (unlatch c s).journal = s.journal := rfl

/-! `transmit` -/

@[simp] theorem transmit_pending (s : State) : (transmit s).pending = s.pending := rfl
@[simp] theorem transmit_part (s : State) : (transmit s).part = s.part := rfl
@[simp] theorem transmit_link (s : State) : (transmit s).link = s.link.choose := rfl
@[simp] theorem transmit_rxControl (s : State) : (transmit s).rxControl = s.rxControl := rfl
@[simp] theorem transmit_rxHead (s : State) : (transmit s).rxHead = s.rxHead := rfl
@[simp] theorem transmit_rxReader (s : State) : (transmit s).rxReader = s.rxReader := rfl
@[simp] theorem transmit_headTx (s : State) : (transmit s).headTx = s.headTx := rfl
@[simp] theorem transmit_lines (s : State) : (transmit s).lines = s.lines := rfl
@[simp] theorem transmit_tracker (s : State) : (transmit s).tracker = s.tracker := rfl
@[simp] theorem transmit_table (s : State) : (transmit s).table = s.table := rfl
@[simp] theorem transmit_fitted (s : State) : (transmit s).fitted = s.fitted := rfl
@[simp] theorem transmit_heads (s : State) : (transmit s).heads = s.heads := rfl
@[simp] theorem transmit_reader (s : State) : (transmit s).reader = s.reader := rfl
@[simp] theorem transmit_gate (s : State) : (transmit s).gate = s.gate := rfl
@[simp] theorem transmit_control (s : State) : (transmit s).control = s.control := rfl
@[simp] theorem transmit_acct (s : State) : (transmit s).acct = s.acct := rfl
@[simp] theorem transmit_journal (s : State) : (transmit s).journal = s.journal := rfl

/-! `setDivert` -/

@[simp] theorem setDivert_pending (s : State) (b : Bool) : (setDivert b s).pending = s.pending := rfl
@[simp] theorem setDivert_part (s : State) (b : Bool) : (setDivert b s).part = s.part := rfl
@[simp] theorem setDivert_link (s : State) (b : Bool) : (setDivert b s).link = s.link := rfl
@[simp] theorem setDivert_rxControl (s : State) (b : Bool) : (setDivert b s).rxControl = s.rxControl := rfl
@[simp] theorem setDivert_rxHead (s : State) (b : Bool) : (setDivert b s).rxHead = s.rxHead := rfl
@[simp] theorem setDivert_rxReader (s : State) (b : Bool) : (setDivert b s).rxReader = s.rxReader := rfl
@[simp] theorem setDivert_headTx (s : State) (b : Bool) : (setDivert b s).headTx = s.headTx := rfl
@[simp] theorem setDivert_lines (s : State) (b : Bool) : (setDivert b s).lines = s.lines := rfl
@[simp] theorem setDivert_tracker (s : State) (b : Bool) : (setDivert b s).tracker = s.tracker := rfl
@[simp] theorem setDivert_table (s : State) (b : Bool) : (setDivert b s).table = s.table := rfl
@[simp] theorem setDivert_fitted (s : State) (b : Bool) : (setDivert b s).fitted = s.fitted := rfl
@[simp] theorem setDivert_heads (s : State) (b : Bool) : (setDivert b s).heads = s.heads := rfl
@[simp] theorem setDivert_reader (s : State) (b : Bool) : (setDivert b s).reader = s.reader := rfl
@[simp] theorem setDivert_gate (s : State) (b : Bool) : (setDivert b s).gate = { s.gate with divert := b } := rfl
@[simp] theorem setDivert_control (s : State) (b : Bool) : (setDivert b s).control = s.control := rfl
@[simp] theorem setDivert_acct (s : State) (b : Bool) : (setDivert b s).acct = s.acct := rfl
@[simp] theorem setDivert_journal (s : State) (b : Bool) : (setDivert b s).journal = s.journal := rfl

/-! `setLevel` -/

@[simp] theorem setLevel_pending (s : State) (l : LineId) (high : Bool) : (setLevel l high s).pending = s.pending := rfl
@[simp] theorem setLevel_part (s : State) (l : LineId) (high : Bool) : (setLevel l high s).part = { s.part with lineHigh := s.part.lineHigh.set l high } := rfl
@[simp] theorem setLevel_link (s : State) (l : LineId) (high : Bool) : (setLevel l high s).link = s.link := rfl
@[simp] theorem setLevel_rxControl (s : State) (l : LineId) (high : Bool) : (setLevel l high s).rxControl = s.rxControl := rfl
@[simp] theorem setLevel_rxHead (s : State) (l : LineId) (high : Bool) : (setLevel l high s).rxHead = s.rxHead := rfl
@[simp] theorem setLevel_rxReader (s : State) (l : LineId) (high : Bool) : (setLevel l high s).rxReader = s.rxReader := rfl
@[simp] theorem setLevel_headTx (s : State) (l : LineId) (high : Bool) : (setLevel l high s).headTx = s.headTx := rfl
@[simp] theorem setLevel_lines (s : State) (l : LineId) (high : Bool) : (setLevel l high s).lines = s.lines := rfl
@[simp] theorem setLevel_tracker (s : State) (l : LineId) (high : Bool) : (setLevel l high s).tracker = s.tracker := rfl
@[simp] theorem setLevel_table (s : State) (l : LineId) (high : Bool) : (setLevel l high s).table = s.table := rfl
@[simp] theorem setLevel_fitted (s : State) (l : LineId) (high : Bool) : (setLevel l high s).fitted = s.fitted := rfl
@[simp] theorem setLevel_heads (s : State) (l : LineId) (high : Bool) : (setLevel l high s).heads = s.heads := rfl
@[simp] theorem setLevel_reader (s : State) (l : LineId) (high : Bool) : (setLevel l high s).reader = s.reader := rfl
@[simp] theorem setLevel_gate (s : State) (l : LineId) (high : Bool) : (setLevel l high s).gate = s.gate := rfl
@[simp] theorem setLevel_control (s : State) (l : LineId) (high : Bool) : (setLevel l high s).control = s.control := rfl
@[simp] theorem setLevel_acct (s : State) (l : LineId) (high : Bool) : (setLevel l high s).acct = s.acct := rfl
@[simp] theorem setLevel_journal (s : State) (l : LineId) (high : Bool) : (setLevel l high s).journal = s.journal := rfl

/-! `setStraps` -/

@[simp] theorem setStraps_pending (s : State) (f : Straps → Straps) : (setStraps f s).pending = s.pending := rfl
@[simp] theorem setStraps_part (s : State) (f : Straps → Straps) : (setStraps f s).part = { s.part with straps := f s.part.straps } := rfl
@[simp] theorem setStraps_link (s : State) (f : Straps → Straps) : (setStraps f s).link = s.link := rfl
@[simp] theorem setStraps_rxControl (s : State) (f : Straps → Straps) : (setStraps f s).rxControl = s.rxControl := rfl
@[simp] theorem setStraps_rxHead (s : State) (f : Straps → Straps) : (setStraps f s).rxHead = s.rxHead := rfl
@[simp] theorem setStraps_rxReader (s : State) (f : Straps → Straps) : (setStraps f s).rxReader = s.rxReader := rfl
@[simp] theorem setStraps_headTx (s : State) (f : Straps → Straps) : (setStraps f s).headTx = s.headTx := rfl
@[simp] theorem setStraps_lines (s : State) (f : Straps → Straps) : (setStraps f s).lines = s.lines := rfl
@[simp] theorem setStraps_tracker (s : State) (f : Straps → Straps) : (setStraps f s).tracker = s.tracker := rfl
@[simp] theorem setStraps_table (s : State) (f : Straps → Straps) : (setStraps f s).table = s.table := rfl
@[simp] theorem setStraps_fitted (s : State) (f : Straps → Straps) : (setStraps f s).fitted = s.fitted := rfl
@[simp] theorem setStraps_heads (s : State) (f : Straps → Straps) : (setStraps f s).heads = s.heads := rfl
@[simp] theorem setStraps_reader (s : State) (f : Straps → Straps) : (setStraps f s).reader = s.reader := rfl
@[simp] theorem setStraps_gate (s : State) (f : Straps → Straps) : (setStraps f s).gate = s.gate := rfl
@[simp] theorem setStraps_control (s : State) (f : Straps → Straps) : (setStraps f s).control = s.control := rfl
@[simp] theorem setStraps_acct (s : State) (f : Straps → Straps) : (setStraps f s).acct = s.acct := rfl
@[simp] theorem setStraps_journal (s : State) (f : Straps → Straps) : (setStraps f s).journal = s.journal := rfl

/-! `setPending` -/

@[simp] theorem setPending_pending (s : State) (l : LineId) (x : Option Nat) : (setPending l x s).pending = s.pending := rfl
@[simp] theorem setPending_part (s : State) (l : LineId) (x : Option Nat) : (setPending l x s).part = s.part := rfl
@[simp] theorem setPending_link (s : State) (l : LineId) (x : Option Nat) : (setPending l x s).link = s.link := rfl
@[simp] theorem setPending_rxControl (s : State) (l : LineId) (x : Option Nat) : (setPending l x s).rxControl = s.rxControl := rfl
@[simp] theorem setPending_rxHead (s : State) (l : LineId) (x : Option Nat) : (setPending l x s).rxHead = s.rxHead := rfl
@[simp] theorem setPending_rxReader (s : State) (l : LineId) (x : Option Nat) : (setPending l x s).rxReader = s.rxReader := rfl
@[simp] theorem setPending_headTx (s : State) (l : LineId) (x : Option Nat) : (setPending l x s).headTx = s.headTx := rfl
@[simp] theorem setPending_lines (s : State) (l : LineId) (x : Option Nat) : (setPending l x s).lines = { s.lines with pending := s.lines.pending.set l x } := rfl
@[simp] theorem setPending_tracker (s : State) (l : LineId) (x : Option Nat) : (setPending l x s).tracker = s.tracker := rfl
@[simp] theorem setPending_table (s : State) (l : LineId) (x : Option Nat) : (setPending l x s).table = s.table := rfl
@[simp] theorem setPending_fitted (s : State) (l : LineId) (x : Option Nat) : (setPending l x s).fitted = s.fitted := rfl
@[simp] theorem setPending_heads (s : State) (l : LineId) (x : Option Nat) : (setPending l x s).heads = s.heads := rfl
@[simp] theorem setPending_reader (s : State) (l : LineId) (x : Option Nat) : (setPending l x s).reader = s.reader := rfl
@[simp] theorem setPending_gate (s : State) (l : LineId) (x : Option Nat) : (setPending l x s).gate = s.gate := rfl
@[simp] theorem setPending_control (s : State) (l : LineId) (x : Option Nat) : (setPending l x s).control = s.control := rfl
@[simp] theorem setPending_acct (s : State) (l : LineId) (x : Option Nat) : (setPending l x s).acct = s.acct := rfl
@[simp] theorem setPending_journal (s : State) (l : LineId) (x : Option Nat) : (setPending l x s).journal = s.journal := rfl

/-! `countCue` -/

@[simp] theorem countCue_pending (s : State) (i : StationId) : (countCue i s).pending = s.pending := rfl
@[simp] theorem countCue_part (s : State) (i : StationId) : (countCue i s).part = s.part := rfl
@[simp] theorem countCue_link (s : State) (i : StationId) : (countCue i s).link = s.link := rfl
@[simp] theorem countCue_rxControl (s : State) (i : StationId) : (countCue i s).rxControl = s.rxControl := rfl
@[simp] theorem countCue_rxHead (s : State) (i : StationId) : (countCue i s).rxHead = s.rxHead := rfl
@[simp] theorem countCue_rxReader (s : State) (i : StationId) : (countCue i s).rxReader = s.rxReader := rfl
@[simp] theorem countCue_headTx (s : State) (i : StationId) : (countCue i s).headTx = s.headTx := rfl
@[simp] theorem countCue_lines (s : State) (i : StationId) : (countCue i s).lines = s.lines := rfl
@[simp] theorem countCue_tracker (s : State) (i : StationId) : (countCue i s).tracker = s.tracker.set i (s.tracker.get i).counted := rfl
@[simp] theorem countCue_table (s : State) (i : StationId) : (countCue i s).table = s.table := rfl
@[simp] theorem countCue_fitted (s : State) (i : StationId) : (countCue i s).fitted = s.fitted := rfl
@[simp] theorem countCue_heads (s : State) (i : StationId) : (countCue i s).heads = s.heads := rfl
@[simp] theorem countCue_reader (s : State) (i : StationId) : (countCue i s).reader = s.reader := rfl
@[simp] theorem countCue_gate (s : State) (i : StationId) : (countCue i s).gate = s.gate := rfl
@[simp] theorem countCue_control (s : State) (i : StationId) : (countCue i s).control = s.control := rfl
@[simp] theorem countCue_acct (s : State) (i : StationId) : (countCue i s).acct = s.acct := rfl
@[simp] theorem countCue_journal (s : State) (i : StationId) : (countCue i s).journal = s.journal := rfl

/-! `realign` -/

@[simp] theorem realign_pending (s : State) (i : StationId) : (realign i s).pending = s.pending := rfl
@[simp] theorem realign_part (s : State) (i : StationId) : (realign i s).part = s.part := rfl
@[simp] theorem realign_link (s : State) (i : StationId) : (realign i s).link = s.link := rfl
@[simp] theorem realign_rxControl (s : State) (i : StationId) : (realign i s).rxControl = s.rxControl := rfl
@[simp] theorem realign_rxHead (s : State) (i : StationId) : (realign i s).rxHead = s.rxHead := rfl
@[simp] theorem realign_rxReader (s : State) (i : StationId) : (realign i s).rxReader = s.rxReader := rfl
@[simp] theorem realign_headTx (s : State) (i : StationId) : (realign i s).headTx = s.headTx := rfl
@[simp] theorem realign_lines (s : State) (i : StationId) : (realign i s).lines = s.lines := rfl
@[simp] theorem realign_tracker (s : State) (i : StationId) : (realign i s).tracker = s.tracker.set i ((s.tracker.get i).realigned s.tracker.marriage.count) := rfl
@[simp] theorem realign_table (s : State) (i : StationId) : (realign i s).table = s.table := rfl
@[simp] theorem realign_fitted (s : State) (i : StationId) : (realign i s).fitted = s.fitted := rfl
@[simp] theorem realign_heads (s : State) (i : StationId) : (realign i s).heads = s.heads := rfl
@[simp] theorem realign_reader (s : State) (i : StationId) : (realign i s).reader = s.reader := rfl
@[simp] theorem realign_gate (s : State) (i : StationId) : (realign i s).gate = s.gate := rfl
@[simp] theorem realign_control (s : State) (i : StationId) : (realign i s).control = s.control := rfl
@[simp] theorem realign_acct (s : State) (i : StationId) : (realign i s).acct = s.acct := rfl
@[simp] theorem realign_journal (s : State) (i : StationId) : (realign i s).journal = s.journal := rfl

end Machine
end Sys2Proof
end

