-- ==== Sys2Proof/Laws/Frames.lean ====
section
/-! SUPPORT. The frame of each shared operation: one lemma that names every field the operation never touches. As a
simp lemma it rewrites each of those fields of the operation's result. -/

namespace Sys2Proof.Machine
open Sys2Proof

@[simp] theorem withdrawHold_frame (c : HoldCause) (s : State) :
    (withdrawHold c s).pending = s.pending ∧ (withdrawHold c s).part = s.part ∧ (withdrawHold c s).link = s.link ∧
      (withdrawHold c s).rxControl = s.rxControl ∧ (withdrawHold c s).rxHead = s.rxHead ∧
      (withdrawHold c s).rxReader = s.rxReader ∧ (withdrawHold c s).headTx = s.headTx ∧
      (withdrawHold c s).lines = s.lines ∧ (withdrawHold c s).tracker = s.tracker ∧
      (withdrawHold c s).table = s.table ∧ (withdrawHold c s).fitted = s.fitted ∧
      (withdrawHold c s).heads = s.heads ∧ (withdrawHold c s).reader = s.reader ∧ (withdrawHold c s).gate = s.gate ∧
      (withdrawHold c s).acct = s.acct ∧ (withdrawHold c s).journal = s.journal := by
  simp only [withdrawHold]; (repeat' split) <;> simp

@[simp] theorem changeJob_frame (j : JobState) (s : State) :
    (changeJob j s).pending = s.pending ∧ (changeJob j s).part = s.part ∧ (changeJob j s).rxControl = s.rxControl ∧
      (changeJob j s).rxHead = s.rxHead ∧ (changeJob j s).rxReader = s.rxReader ∧ (changeJob j s).headTx = s.headTx ∧
      (changeJob j s).lines = s.lines ∧ (changeJob j s).tracker = s.tracker ∧ (changeJob j s).table = s.table ∧
      (changeJob j s).fitted = s.fitted ∧ (changeJob j s).heads = s.heads ∧ (changeJob j s).reader = s.reader ∧
      (changeJob j s).gate = s.gate ∧ (changeJob j s).control = s.control ∧ (changeJob j s).journal = s.journal := by
  simp only [changeJob]; (repeat' split) <;> simp

@[simp] theorem raiseHold_frame (c : HoldCause) (s : State) :
    (raiseHold c s).pending = s.pending ∧ (raiseHold c s).part = s.part ∧ (raiseHold c s).rxControl = s.rxControl ∧
      (raiseHold c s).rxHead = s.rxHead ∧ (raiseHold c s).rxReader = s.rxReader ∧ (raiseHold c s).headTx = s.headTx ∧
      (raiseHold c s).lines = s.lines ∧ (raiseHold c s).tracker = s.tracker ∧ (raiseHold c s).table = s.table ∧
      (raiseHold c s).fitted = s.fitted ∧ (raiseHold c s).heads = s.heads ∧ (raiseHold c s).reader = s.reader ∧
      (raiseHold c s).gate = s.gate ∧ (raiseHold c s).journal = s.journal := by
  simp only [raiseHold]; (repeat' split) <;> simp

@[simp] theorem latch_frame (c : StopCause) (s : State) :
    (latch c s).pending = s.pending ∧ (latch c s).part = s.part ∧ (latch c s).rxControl = s.rxControl ∧
      (latch c s).rxHead = s.rxHead ∧ (latch c s).rxReader = s.rxReader ∧ (latch c s).headTx = s.headTx ∧
      (latch c s).lines = s.lines ∧ (latch c s).tracker = s.tracker ∧ (latch c s).table = s.table ∧
      (latch c s).fitted = s.fitted ∧ (latch c s).heads = s.heads ∧ (latch c s).reader = s.reader ∧
      (latch c s).gate = s.gate ∧ (latch c s).acct = s.acct ∧ (latch c s).journal = s.journal := by
  simp only [latch]; (repeat' split) <;> simp

@[simp] theorem monitorFires_frame (b : Bool) (n : Nat) (a : MonitorAction) (s : State) :
    (monitorFires b n a s).pending = s.pending ∧ (monitorFires b n a s).part = s.part ∧
      (monitorFires b n a s).rxControl = s.rxControl ∧ (monitorFires b n a s).rxHead = s.rxHead ∧
      (monitorFires b n a s).rxReader = s.rxReader ∧ (monitorFires b n a s).headTx = s.headTx ∧
      (monitorFires b n a s).lines = s.lines ∧ (monitorFires b n a s).tracker = s.tracker ∧
      (monitorFires b n a s).table = s.table ∧ (monitorFires b n a s).fitted = s.fitted ∧
      (monitorFires b n a s).heads = s.heads ∧ (monitorFires b n a s).reader = s.reader ∧
      (monitorFires b n a s).gate = s.gate ∧ (monitorFires b n a s).acct = s.acct ∧
      (monitorFires b n a s).journal = s.journal := by
  simp only [monitorFires]; (repeat' split) <;> simp

@[simp] theorem readFailEvent_frame (b : Bool) (s : State) :
    (readFailEvent b s).pending = s.pending ∧ (readFailEvent b s).part = s.part ∧
      (readFailEvent b s).rxControl = s.rxControl ∧ (readFailEvent b s).rxHead = s.rxHead ∧
      (readFailEvent b s).rxReader = s.rxReader ∧ (readFailEvent b s).headTx = s.headTx ∧
      (readFailEvent b s).lines = s.lines ∧ (readFailEvent b s).tracker = s.tracker ∧
      (readFailEvent b s).table = s.table ∧ (readFailEvent b s).fitted = s.fitted ∧
      (readFailEvent b s).heads = s.heads ∧ (readFailEvent b s).gate = s.gate ∧ (readFailEvent b s).acct = s.acct ∧
      (readFailEvent b s).journal = s.journal := by
  simp only [readFailEvent]; (repeat' split) <;> simp

@[simp] theorem spoilEvent_frame (b : Bool) (s : State) :
    (spoilEvent b s).pending = s.pending ∧ (spoilEvent b s).part = s.part ∧
      (spoilEvent b s).rxControl = s.rxControl ∧ (spoilEvent b s).rxHead = s.rxHead ∧
      (spoilEvent b s).rxReader = s.rxReader ∧ (spoilEvent b s).headTx = s.headTx ∧
      (spoilEvent b s).lines = s.lines ∧ (spoilEvent b s).tracker = s.tracker ∧ (spoilEvent b s).table = s.table ∧
      (spoilEvent b s).fitted = s.fitted ∧ (spoilEvent b s).heads = s.heads ∧ (spoilEvent b s).reader = s.reader ∧
      (spoilEvent b s).acct = s.acct ∧ (spoilEvent b s).journal = s.journal := by
  simp only [spoilEvent]; (repeat' split) <;> simp

@[simp] theorem stopRun_frame (s : State) :
    (stopRun s).pending = s.pending ∧ (stopRun s).part = s.part ∧ (stopRun s).link = s.link ∧
      (stopRun s).rxControl = s.rxControl ∧ (stopRun s).rxHead = s.rxHead ∧ (stopRun s).rxReader = s.rxReader ∧
      (stopRun s).headTx = s.headTx ∧ (stopRun s).lines = s.lines ∧ (stopRun s).table = s.table ∧
      (stopRun s).fitted = s.fitted ∧ (stopRun s).control = s.control ∧ (stopRun s).acct = s.acct ∧
      (stopRun s).journal = s.journal := by
  simp only [stopRun]; (repeat' split) <;> simp

@[simp] theorem refreshChannels_frame (s : State) :
    (refreshChannels s).pending = s.pending ∧ (refreshChannels s).part = s.part ∧ (refreshChannels s).link = s.link ∧
      (refreshChannels s).rxControl = s.rxControl ∧ (refreshChannels s).rxHead = s.rxHead ∧
      (refreshChannels s).rxReader = s.rxReader ∧ (refreshChannels s).headTx = s.headTx ∧
      (refreshChannels s).lines = s.lines ∧ (refreshChannels s).tracker = s.tracker ∧
      (refreshChannels s).table = s.table ∧ (refreshChannels s).fitted = s.fitted ∧
      (refreshChannels s).reader = s.reader ∧ (refreshChannels s).gate = s.gate ∧
      (refreshChannels s).control = s.control ∧ (refreshChannels s).acct = s.acct ∧
      (refreshChannels s).journal = s.journal := by
  simp only [refreshChannels]; (repeat' split) <;> simp

@[simp] theorem updatePly_frame (p : Ply) (i : Nat) (st : PlyStatus) (s : State) :
    (updatePly p i st s).pending = s.pending ∧ (updatePly p i st s).part = s.part ∧
      (updatePly p i st s).link = s.link ∧ (updatePly p i st s).rxControl = s.rxControl ∧
      (updatePly p i st s).rxHead = s.rxHead ∧ (updatePly p i st s).rxReader = s.rxReader ∧
      (updatePly p i st s).headTx = s.headTx ∧ (updatePly p i st s).lines = s.lines ∧
      (updatePly p i st s).tracker = s.tracker ∧ (updatePly p i st s).fitted = s.fitted ∧
      (updatePly p i st s).heads = s.heads ∧ (updatePly p i st s).reader = s.reader ∧
      (updatePly p i st s).gate = s.gate ∧ (updatePly p i st s).control = s.control ∧
      (updatePly p i st s).acct = s.acct ∧ (updatePly p i st s).journal = s.journal := by
  simp only [updatePly]; (repeat' split) <;> simp

@[simp] theorem updatePlies_frame (p : Ply) (is : List Nat) (st : PlyStatus) (s : State) :
    (updatePlies p is st s).pending = s.pending ∧ (updatePlies p is st s).part = s.part ∧
      (updatePlies p is st s).link = s.link ∧ (updatePlies p is st s).rxControl = s.rxControl ∧
      (updatePlies p is st s).rxHead = s.rxHead ∧ (updatePlies p is st s).rxReader = s.rxReader ∧
      (updatePlies p is st s).headTx = s.headTx ∧ (updatePlies p is st s).lines = s.lines ∧
      (updatePlies p is st s).tracker = s.tracker ∧ (updatePlies p is st s).fitted = s.fitted ∧
      (updatePlies p is st s).heads = s.heads ∧ (updatePlies p is st s).reader = s.reader ∧
      (updatePlies p is st s).gate = s.gate ∧ (updatePlies p is st s).control = s.control ∧
      (updatePlies p is st s).acct = s.acct ∧ (updatePlies p is st s).journal = s.journal := by
  induction is generalizing s with
  | nil => simp [updatePlies]
  | cons i is ih => simpa [updatePlies] using ih (updatePly p i st s)

@[simp] theorem sweepPly_frame (p : Ply) (s : State) :
    (sweepPly p s).pending = s.pending ∧ (sweepPly p s).part = s.part ∧ (sweepPly p s).link = s.link ∧
      (sweepPly p s).rxControl = s.rxControl ∧ (sweepPly p s).rxHead = s.rxHead ∧
      (sweepPly p s).rxReader = s.rxReader ∧ (sweepPly p s).headTx = s.headTx ∧ (sweepPly p s).lines = s.lines ∧
      (sweepPly p s).tracker = s.tracker ∧ (sweepPly p s).fitted = s.fitted ∧ (sweepPly p s).heads = s.heads ∧
      (sweepPly p s).reader = s.reader ∧ (sweepPly p s).gate = s.gate ∧ (sweepPly p s).control = s.control ∧
      (sweepPly p s).acct = s.acct ∧ (sweepPly p s).journal = s.journal := by
  simp only [sweepPly]; (repeat' split) <;> simp

@[simp] theorem updateMarriage_frame (i : Nat) (m : Marriage) (s : State) :
    (updateMarriage i m s).pending = s.pending ∧ (updateMarriage i m s).part = s.part ∧
      (updateMarriage i m s).link = s.link ∧ (updateMarriage i m s).rxControl = s.rxControl ∧
      (updateMarriage i m s).rxHead = s.rxHead ∧ (updateMarriage i m s).rxReader = s.rxReader ∧
      (updateMarriage i m s).headTx = s.headTx ∧ (updateMarriage i m s).lines = s.lines ∧
      (updateMarriage i m s).tracker = s.tracker ∧ (updateMarriage i m s).fitted = s.fitted ∧
      (updateMarriage i m s).heads = s.heads ∧ (updateMarriage i m s).reader = s.reader ∧
      (updateMarriage i m s).gate = s.gate ∧ (updateMarriage i m s).control = s.control ∧
      (updateMarriage i m s).acct = s.acct ∧ (updateMarriage i m s).journal = s.journal := by
  simp only [updateMarriage]; (repeat' split) <;> simp

@[simp] theorem updateVerification_frame (i : Nat) (v : Verification) (s : State) :
    (updateVerification i v s).pending = s.pending ∧ (updateVerification i v s).part = s.part ∧
      (updateVerification i v s).link = s.link ∧ (updateVerification i v s).rxControl = s.rxControl ∧
      (updateVerification i v s).rxHead = s.rxHead ∧ (updateVerification i v s).rxReader = s.rxReader ∧
      (updateVerification i v s).headTx = s.headTx ∧ (updateVerification i v s).lines = s.lines ∧
      (updateVerification i v s).tracker = s.tracker ∧ (updateVerification i v s).fitted = s.fitted ∧
      (updateVerification i v s).heads = s.heads ∧ (updateVerification i v s).reader = s.reader ∧
      (updateVerification i v s).gate = s.gate ∧ (updateVerification i v s).control = s.control ∧
      (updateVerification i v s).acct = s.acct ∧ (updateVerification i v s).journal = s.journal := by
  simp only [updateVerification]; (repeat' split) <;> simp

@[simp] theorem markHostCull_frame (i : Nat) (s : State) :
    (markHostCull i s).pending = s.pending ∧ (markHostCull i s).part = s.part ∧ (markHostCull i s).link = s.link ∧
      (markHostCull i s).rxControl = s.rxControl ∧ (markHostCull i s).rxHead = s.rxHead ∧
      (markHostCull i s).rxReader = s.rxReader ∧ (markHostCull i s).headTx = s.headTx ∧
      (markHostCull i s).lines = s.lines ∧ (markHostCull i s).tracker = s.tracker ∧
      (markHostCull i s).fitted = s.fitted ∧ (markHostCull i s).heads = s.heads ∧
      (markHostCull i s).reader = s.reader ∧ (markHostCull i s).gate = s.gate ∧
      (markHostCull i s).control = s.control ∧ (markHostCull i s).acct = s.acct ∧
      (markHostCull i s).journal = s.journal := by
  simp only [markHostCull]; (repeat' split) <;> simp

@[simp] theorem appendLog_frame (rs : List VoidRecord) (s : State) :
    (appendLog rs s).pending = s.pending ∧ (appendLog rs s).part = s.part ∧
      (appendLog rs s).rxControl = s.rxControl ∧ (appendLog rs s).rxHead = s.rxHead ∧
      (appendLog rs s).rxReader = s.rxReader ∧ (appendLog rs s).headTx = s.headTx ∧
      (appendLog rs s).lines = s.lines ∧ (appendLog rs s).tracker = s.tracker ∧ (appendLog rs s).table = s.table ∧
      (appendLog rs s).fitted = s.fitted ∧ (appendLog rs s).heads = s.heads ∧ (appendLog rs s).reader = s.reader ∧
      (appendLog rs s).gate = s.gate ∧ (appendLog rs s).control = s.control ∧ (appendLog rs s).journal = s.journal := by
  simp only [appendLog]; (repeat' split) <;> simp

@[simp] theorem appendVoids_frame (b : Bool) (rs : List VoidRecord) (s : State) :
    (appendVoids b rs s).pending = s.pending ∧ (appendVoids b rs s).part = s.part ∧
      (appendVoids b rs s).rxControl = s.rxControl ∧ (appendVoids b rs s).rxHead = s.rxHead ∧
      (appendVoids b rs s).rxReader = s.rxReader ∧ (appendVoids b rs s).headTx = s.headTx ∧
      (appendVoids b rs s).lines = s.lines ∧ (appendVoids b rs s).tracker = s.tracker ∧
      (appendVoids b rs s).table = s.table ∧ (appendVoids b rs s).fitted = s.fitted ∧
      (appendVoids b rs s).heads = s.heads ∧ (appendVoids b rs s).reader = s.reader ∧
      (appendVoids b rs s).gate = s.gate ∧ (appendVoids b rs s).journal = s.journal := by
  simp only [appendVoids]; (repeat' split) <;> simp

@[simp] theorem countVoided_frame (k : Nat) (s : State) :
    (countVoided k s).pending = s.pending ∧ (countVoided k s).part = s.part ∧ (countVoided k s).link = s.link ∧
      (countVoided k s).rxControl = s.rxControl ∧ (countVoided k s).rxHead = s.rxHead ∧
      (countVoided k s).rxReader = s.rxReader ∧ (countVoided k s).headTx = s.headTx ∧
      (countVoided k s).lines = s.lines ∧ (countVoided k s).tracker = s.tracker ∧ (countVoided k s).table = s.table ∧
      (countVoided k s).fitted = s.fitted ∧ (countVoided k s).heads = s.heads ∧ (countVoided k s).reader = s.reader ∧
      (countVoided k s).gate = s.gate ∧ (countVoided k s).control = s.control ∧
      (countVoided k s).journal = s.journal := by
  simp only [countVoided]; (repeat' split) <;> simp

@[simp] theorem writeVoids_frame (b : Bool) (rs : List VoidRecord) (s : State) :
    (writeVoids b rs s).pending = s.pending ∧ (writeVoids b rs s).part = s.part ∧
      (writeVoids b rs s).rxControl = s.rxControl ∧ (writeVoids b rs s).rxHead = s.rxHead ∧
      (writeVoids b rs s).rxReader = s.rxReader ∧ (writeVoids b rs s).headTx = s.headTx ∧
      (writeVoids b rs s).lines = s.lines ∧ (writeVoids b rs s).tracker = s.tracker ∧
      (writeVoids b rs s).table = s.table ∧ (writeVoids b rs s).fitted = s.fitted ∧
      (writeVoids b rs s).heads = s.heads ∧ (writeVoids b rs s).reader = s.reader ∧
      (writeVoids b rs s).gate = s.gate ∧ (writeVoids b rs s).journal = s.journal := by
  simp only [writeVoids]; (repeat' split) <;> simp

@[simp] theorem addRow_frame (r : PendingRow) (s : State) :
    (addRow r s).pending = s.pending ∧ (addRow r s).part = s.part ∧ (addRow r s).link = s.link ∧
      (addRow r s).rxControl = s.rxControl ∧ (addRow r s).rxHead = s.rxHead ∧ (addRow r s).rxReader = s.rxReader ∧
      (addRow r s).headTx = s.headTx ∧ (addRow r s).lines = s.lines ∧ (addRow r s).tracker = s.tracker ∧
      (addRow r s).table = s.table ∧ (addRow r s).fitted = s.fitted ∧ (addRow r s).heads = s.heads ∧
      (addRow r s).reader = s.reader ∧ (addRow r s).gate = s.gate ∧ (addRow r s).control = s.control ∧
      (addRow r s).journal = s.journal := by
  simp only [addRow]; (repeat' split) <;> simp

@[simp] theorem createEntry_frame (ns : List Num) (c : VoidCause) (s : State) :
    (createEntry ns c s).pending = s.pending ∧ (createEntry ns c s).part = s.part ∧
      (createEntry ns c s).link = s.link ∧ (createEntry ns c s).rxControl = s.rxControl ∧
      (createEntry ns c s).rxHead = s.rxHead ∧ (createEntry ns c s).rxReader = s.rxReader ∧
      (createEntry ns c s).headTx = s.headTx ∧ (createEntry ns c s).lines = s.lines ∧
      (createEntry ns c s).tracker = s.tracker ∧ (createEntry ns c s).table = s.table ∧
      (createEntry ns c s).fitted = s.fitted ∧ (createEntry ns c s).heads = s.heads ∧
      (createEntry ns c s).reader = s.reader ∧ (createEntry ns c s).gate = s.gate ∧
      (createEntry ns c s).control = s.control ∧ (createEntry ns c s).journal = s.journal := by
  simp only [createEntry]; (repeat' split) <;> simp

@[simp] theorem removeEntry_frame (k : Nat) (s : State) :
    (removeEntry k s).pending = s.pending ∧ (removeEntry k s).part = s.part ∧ (removeEntry k s).link = s.link ∧
      (removeEntry k s).rxControl = s.rxControl ∧ (removeEntry k s).rxHead = s.rxHead ∧
      (removeEntry k s).rxReader = s.rxReader ∧ (removeEntry k s).headTx = s.headTx ∧
      (removeEntry k s).lines = s.lines ∧ (removeEntry k s).tracker = s.tracker ∧ (removeEntry k s).table = s.table ∧
      (removeEntry k s).fitted = s.fitted ∧ (removeEntry k s).heads = s.heads ∧ (removeEntry k s).reader = s.reader ∧
      (removeEntry k s).gate = s.gate ∧ (removeEntry k s).control = s.control ∧
      (removeEntry k s).journal = s.journal := by
  simp only [removeEntry]; (repeat' split) <;> simp

@[simp] theorem replaceEntry_frame (e : RemakeEntry) (s : State) :
    (replaceEntry e s).pending = s.pending ∧ (replaceEntry e s).part = s.part ∧ (replaceEntry e s).link = s.link ∧
      (replaceEntry e s).rxControl = s.rxControl ∧ (replaceEntry e s).rxHead = s.rxHead ∧
      (replaceEntry e s).rxReader = s.rxReader ∧ (replaceEntry e s).headTx = s.headTx ∧
      (replaceEntry e s).lines = s.lines ∧ (replaceEntry e s).tracker = s.tracker ∧
      (replaceEntry e s).table = s.table ∧ (replaceEntry e s).fitted = s.fitted ∧
      (replaceEntry e s).heads = s.heads ∧ (replaceEntry e s).reader = s.reader ∧ (replaceEntry e s).gate = s.gate ∧
      (replaceEntry e s).control = s.control ∧ (replaceEntry e s).journal = s.journal := by
  simp only [replaceEntry]; (repeat' split) <;> simp

@[simp] theorem requeueEntry_frame (e : RemakeEntry) (s : State) :
    (requeueEntry e s).pending = s.pending ∧ (requeueEntry e s).part = s.part ∧ (requeueEntry e s).link = s.link ∧
      (requeueEntry e s).rxControl = s.rxControl ∧ (requeueEntry e s).rxHead = s.rxHead ∧
      (requeueEntry e s).rxReader = s.rxReader ∧ (requeueEntry e s).headTx = s.headTx ∧
      (requeueEntry e s).lines = s.lines ∧ (requeueEntry e s).tracker = s.tracker ∧
      (requeueEntry e s).table = s.table ∧ (requeueEntry e s).fitted = s.fitted ∧
      (requeueEntry e s).heads = s.heads ∧ (requeueEntry e s).reader = s.reader ∧ (requeueEntry e s).gate = s.gate ∧
      (requeueEntry e s).control = s.control ∧ (requeueEntry e s).journal = s.journal := by
  simp only [requeueEntry]; (repeat' split) <;> simp

@[simp] theorem voidEntry_frame (b : Bool) (e : RemakeEntry) (c : VoidCause) (i : Option Nat) (x : Bool) (s : State) :
    (voidEntry b e c i x s).pending = s.pending ∧ (voidEntry b e c i x s).part = s.part ∧
      (voidEntry b e c i x s).rxControl = s.rxControl ∧ (voidEntry b e c i x s).rxHead = s.rxHead ∧
      (voidEntry b e c i x s).rxReader = s.rxReader ∧ (voidEntry b e c i x s).headTx = s.headTx ∧
      (voidEntry b e c i x s).lines = s.lines ∧ (voidEntry b e c i x s).tracker = s.tracker ∧
      (voidEntry b e c i x s).table = s.table ∧ (voidEntry b e c i x s).fitted = s.fitted ∧
      (voidEntry b e c i x s).heads = s.heads ∧ (voidEntry b e c i x s).reader = s.reader ∧
      (voidEntry b e c i x s).gate = s.gate ∧ (voidEntry b e c i x s).journal = s.journal := by
  simp only [voidEntry]; (repeat' split) <;> simp

@[simp] theorem moveRetired_frame (ns : List Num) (s : State) :
    (moveRetired ns s).pending = s.pending ∧ (moveRetired ns s).part = s.part ∧ (moveRetired ns s).link = s.link ∧
      (moveRetired ns s).rxControl = s.rxControl ∧ (moveRetired ns s).rxHead = s.rxHead ∧
      (moveRetired ns s).rxReader = s.rxReader ∧ (moveRetired ns s).headTx = s.headTx ∧
      (moveRetired ns s).lines = s.lines ∧ (moveRetired ns s).tracker = s.tracker ∧
      (moveRetired ns s).table = s.table ∧ (moveRetired ns s).fitted = s.fitted ∧
      (moveRetired ns s).heads = s.heads ∧ (moveRetired ns s).reader = s.reader ∧ (moveRetired ns s).gate = s.gate ∧
      (moveRetired ns s).control = s.control ∧ (moveRetired ns s).journal = s.journal := by
  simp only [moveRetired]; (repeat' split) <;> simp

@[simp] theorem settleMarks_frame (s : State) :
    (settleMarks s).pending = s.pending ∧ (settleMarks s).part = s.part ∧ (settleMarks s).link = s.link ∧
      (settleMarks s).rxControl = s.rxControl ∧ (settleMarks s).rxHead = s.rxHead ∧
      (settleMarks s).rxReader = s.rxReader ∧ (settleMarks s).headTx = s.headTx ∧ (settleMarks s).lines = s.lines ∧
      (settleMarks s).tracker = s.tracker ∧ (settleMarks s).table = s.table ∧ (settleMarks s).fitted = s.fitted ∧
      (settleMarks s).heads = s.heads ∧ (settleMarks s).reader = s.reader ∧ (settleMarks s).gate = s.gate ∧
      (settleMarks s).control = s.control ∧ (settleMarks s).journal = s.journal := by
  simp only [settleMarks]; (repeat' split) <;> simp

@[simp] theorem voidDoubtSet_frame (b : Bool) (ns : List Num) (s : State) :
    (voidDoubtSet b ns s).pending = s.pending ∧ (voidDoubtSet b ns s).part = s.part ∧
      (voidDoubtSet b ns s).rxControl = s.rxControl ∧ (voidDoubtSet b ns s).rxHead = s.rxHead ∧
      (voidDoubtSet b ns s).rxReader = s.rxReader ∧ (voidDoubtSet b ns s).headTx = s.headTx ∧
      (voidDoubtSet b ns s).lines = s.lines ∧ (voidDoubtSet b ns s).tracker = s.tracker ∧
      (voidDoubtSet b ns s).table = s.table ∧ (voidDoubtSet b ns s).fitted = s.fitted ∧
      (voidDoubtSet b ns s).heads = s.heads ∧ (voidDoubtSet b ns s).reader = s.reader ∧
      (voidDoubtSet b ns s).gate = s.gate := by
  simp only [voidDoubtSet]; (repeat' split) <;> simp

@[simp] theorem mapBundle_frame (f : OpenBundle → OpenBundle) (s : State) :
    (mapBundle f s).pending = s.pending ∧ (mapBundle f s).part = s.part ∧ (mapBundle f s).link = s.link ∧
      (mapBundle f s).rxControl = s.rxControl ∧ (mapBundle f s).rxHead = s.rxHead ∧
      (mapBundle f s).rxReader = s.rxReader ∧ (mapBundle f s).headTx = s.headTx ∧ (mapBundle f s).lines = s.lines ∧
      (mapBundle f s).tracker = s.tracker ∧ (mapBundle f s).table = s.table ∧ (mapBundle f s).fitted = s.fitted ∧
      (mapBundle f s).heads = s.heads ∧ (mapBundle f s).reader = s.reader ∧ (mapBundle f s).gate = s.gate ∧
      (mapBundle f s).control = s.control ∧ (mapBundle f s).journal = s.journal := by
  simp only [mapBundle]; (repeat' split) <;> simp

@[simp] theorem startJog_frame (s : State) :
    (startJog s).pending = s.pending ∧ (startJog s).part = s.part ∧ (startJog s).link = s.link ∧
      (startJog s).rxControl = s.rxControl ∧ (startJog s).rxHead = s.rxHead ∧ (startJog s).rxReader = s.rxReader ∧
      (startJog s).headTx = s.headTx ∧ (startJog s).lines = s.lines ∧ (startJog s).tracker = s.tracker ∧
      (startJog s).table = s.table ∧ (startJog s).fitted = s.fitted ∧ (startJog s).heads = s.heads ∧
      (startJog s).reader = s.reader ∧ (startJog s).control = s.control ∧ (startJog s).acct = s.acct ∧
      (startJog s).journal = s.journal := by
  simp only [startJog]; (repeat' split) <;> simp

@[simp] theorem completeClose_frame (b : OpenBundle) (r : CloseReason) (s : State) :
    (completeClose b r s).pending = s.pending ∧ (completeClose b r s).part = s.part ∧
      (completeClose b r s).rxControl = s.rxControl ∧ (completeClose b r s).rxHead = s.rxHead ∧
      (completeClose b r s).rxReader = s.rxReader ∧ (completeClose b r s).headTx = s.headTx ∧
      (completeClose b r s).lines = s.lines ∧ (completeClose b r s).tracker = s.tracker ∧
      (completeClose b r s).table = s.table ∧ (completeClose b r s).fitted = s.fitted ∧
      (completeClose b r s).heads = s.heads ∧ (completeClose b r s).reader = s.reader ∧
      (completeClose b r s).control = s.control ∧ (completeClose b r s).journal = s.journal := by
  simp only [completeClose]; (repeat' split) <;> simp

@[simp] theorem reachClose_frame (b : OpenBundle) (r : CloseReason) (s : State) :
    (reachClose b r s).pending = s.pending ∧ (reachClose b r s).part = s.part ∧
      (reachClose b r s).rxControl = s.rxControl ∧ (reachClose b r s).rxHead = s.rxHead ∧
      (reachClose b r s).rxReader = s.rxReader ∧ (reachClose b r s).headTx = s.headTx ∧
      (reachClose b r s).lines = s.lines ∧ (reachClose b r s).tracker = s.tracker ∧
      (reachClose b r s).table = s.table ∧ (reachClose b r s).fitted = s.fitted ∧
      (reachClose b r s).heads = s.heads ∧ (reachClose b r s).reader = s.reader ∧
      (reachClose b r s).control = s.control ∧ (reachClose b r s).journal = s.journal := by
  simp only [reachClose]; (repeat' split) <;> simp

@[simp] theorem askClose_frame (r : CloseReason) (s : State) :
    (askClose r s).pending = s.pending ∧ (askClose r s).part = s.part ∧ (askClose r s).rxControl = s.rxControl ∧
      (askClose r s).rxHead = s.rxHead ∧ (askClose r s).rxReader = s.rxReader ∧ (askClose r s).headTx = s.headTx ∧
      (askClose r s).lines = s.lines ∧ (askClose r s).tracker = s.tracker ∧ (askClose r s).table = s.table ∧
      (askClose r s).fitted = s.fitted ∧ (askClose r s).heads = s.heads ∧ (askClose r s).reader = s.reader ∧
      (askClose r s).control = s.control ∧ (askClose r s).journal = s.journal := by
  simp only [askClose]; (repeat' split) <;> simp

@[simp] theorem closeAtRetirement_frame (d a : Bool) (s : State) :
    (closeAtRetirement d a s).pending = s.pending ∧ (closeAtRetirement d a s).part = s.part ∧
      (closeAtRetirement d a s).rxControl = s.rxControl ∧ (closeAtRetirement d a s).rxHead = s.rxHead ∧
      (closeAtRetirement d a s).rxReader = s.rxReader ∧ (closeAtRetirement d a s).headTx = s.headTx ∧
      (closeAtRetirement d a s).lines = s.lines ∧ (closeAtRetirement d a s).tracker = s.tracker ∧
      (closeAtRetirement d a s).table = s.table ∧ (closeAtRetirement d a s).fitted = s.fitted ∧
      (closeAtRetirement d a s).heads = s.heads ∧ (closeAtRetirement d a s).reader = s.reader ∧
      (closeAtRetirement d a s).control = s.control ∧ (closeAtRetirement d a s).journal = s.journal := by
  simp only [closeAtRetirement]; (repeat' split) <;> simp

@[simp] theorem reportFull_frame (w : Bool) (s : State) :
    (reportFull w s).pending = s.pending ∧ (reportFull w s).part = s.part ∧
      (reportFull w s).rxControl = s.rxControl ∧ (reportFull w s).rxHead = s.rxHead ∧
      (reportFull w s).rxReader = s.rxReader ∧ (reportFull w s).headTx = s.headTx ∧
      (reportFull w s).lines = s.lines ∧ (reportFull w s).tracker = s.tracker ∧ (reportFull w s).table = s.table ∧
      (reportFull w s).fitted = s.fitted ∧ (reportFull w s).heads = s.heads ∧ (reportFull w s).reader = s.reader ∧
      (reportFull w s).gate = s.gate := by
  simp only [reportFull]; (repeat' split) <;> simp

@[simp] theorem enterComplete_frame (s : State) :
    (enterComplete s).pending = s.pending ∧ (enterComplete s).part = s.part ∧
      (enterComplete s).rxControl = s.rxControl ∧ (enterComplete s).rxHead = s.rxHead ∧
      (enterComplete s).rxReader = s.rxReader ∧ (enterComplete s).headTx = s.headTx ∧
      (enterComplete s).lines = s.lines ∧ (enterComplete s).table = s.table ∧ (enterComplete s).fitted = s.fitted ∧
      (enterComplete s).control = s.control ∧ (enterComplete s).journal = s.journal := by
  simp only [enterComplete]; (repeat' split) <;> simp

@[simp] theorem completionCheck_frame (s : State) :
    (completionCheck s).pending = s.pending ∧ (completionCheck s).part = s.part ∧
      (completionCheck s).rxControl = s.rxControl ∧ (completionCheck s).rxHead = s.rxHead ∧
      (completionCheck s).rxReader = s.rxReader ∧ (completionCheck s).headTx = s.headTx ∧
      (completionCheck s).lines = s.lines ∧ (completionCheck s).table = s.table ∧
      (completionCheck s).fitted = s.fitted ∧ (completionCheck s).control = s.control := by
  simp only [completionCheck]; (repeat' split) <;> simp

@[simp] theorem takeSuspect_frame (i : Nat) (ns : List Num) (b : Nat) (l : Bool) (s : State) :
    (takeSuspect i ns b l s).pending = s.pending ∧ (takeSuspect i ns b l s).part = s.part ∧
      (takeSuspect i ns b l s).rxControl = s.rxControl ∧ (takeSuspect i ns b l s).rxHead = s.rxHead ∧
      (takeSuspect i ns b l s).rxReader = s.rxReader ∧ (takeSuspect i ns b l s).headTx = s.headTx ∧
      (takeSuspect i ns b l s).lines = s.lines ∧ (takeSuspect i ns b l s).tracker = s.tracker ∧
      (takeSuspect i ns b l s).table = s.table ∧ (takeSuspect i ns b l s).fitted = s.fitted ∧
      (takeSuspect i ns b l s).heads = s.heads ∧ (takeSuspect i ns b l s).reader = s.reader := by
  simp only [takeSuspect]; (repeat' split) <;> simp

@[simp] theorem raiseFrontier_frame (f : Nat) (s : State) :
    (raiseFrontier f s).pending = s.pending ∧ (raiseFrontier f s).part = s.part ∧ (raiseFrontier f s).link = s.link ∧
      (raiseFrontier f s).rxControl = s.rxControl ∧ (raiseFrontier f s).rxHead = s.rxHead ∧
      (raiseFrontier f s).rxReader = s.rxReader ∧ (raiseFrontier f s).headTx = s.headTx ∧
      (raiseFrontier f s).lines = s.lines ∧ (raiseFrontier f s).tracker = s.tracker ∧
      (raiseFrontier f s).fitted = s.fitted ∧ (raiseFrontier f s).heads = s.heads ∧
      (raiseFrontier f s).reader = s.reader ∧ (raiseFrontier f s).gate = s.gate ∧
      (raiseFrontier f s).control = s.control ∧ (raiseFrontier f s).acct = s.acct ∧
      (raiseFrontier f s).journal = s.journal := by
  simp only [raiseFrontier]; (repeat' split) <;> simp

@[simp] theorem refuseExhausted_frame (s : State) :
    (refuseExhausted s).pending = s.pending ∧ (refuseExhausted s).part = s.part ∧
      (refuseExhausted s).rxControl = s.rxControl ∧ (refuseExhausted s).rxHead = s.rxHead ∧
      (refuseExhausted s).rxReader = s.rxReader ∧ (refuseExhausted s).headTx = s.headTx ∧
      (refuseExhausted s).lines = s.lines ∧ (refuseExhausted s).tracker = s.tracker ∧
      (refuseExhausted s).table = s.table ∧ (refuseExhausted s).fitted = s.fitted ∧
      (refuseExhausted s).heads = s.heads ∧ (refuseExhausted s).reader = s.reader ∧
      (refuseExhausted s).gate = s.gate := by
  simp only [refuseExhausted]; (repeat' split) <;> simp

@[simp] theorem drainIfDone_frame (s : State) :
    (drainIfDone s).pending = s.pending ∧ (drainIfDone s).part = s.part ∧ (drainIfDone s).rxControl = s.rxControl ∧
      (drainIfDone s).rxHead = s.rxHead ∧ (drainIfDone s).rxReader = s.rxReader ∧ (drainIfDone s).headTx = s.headTx ∧
      (drainIfDone s).lines = s.lines ∧ (drainIfDone s).tracker = s.tracker ∧ (drainIfDone s).table = s.table ∧
      (drainIfDone s).fitted = s.fitted ∧ (drainIfDone s).heads = s.heads ∧ (drainIfDone s).reader = s.reader ∧
      (drainIfDone s).gate = s.gate ∧ (drainIfDone s).control = s.control ∧ (drainIfDone s).journal = s.journal := by
  simp only [drainIfDone]; (repeat' split) <;> simp

@[simp] theorem enterFault_frame (p : Ply) (c : FaultCause) (s : State) :
    (enterFault p c s).pending = s.pending ∧ (enterFault p c s).part = s.part ∧
      (enterFault p c s).rxControl = s.rxControl ∧ (enterFault p c s).rxHead = s.rxHead ∧
      (enterFault p c s).rxReader = s.rxReader ∧ (enterFault p c s).headTx = s.headTx ∧
      (enterFault p c s).lines = s.lines ∧ (enterFault p c s).tracker = s.tracker ∧
      (enterFault p c s).table = s.table ∧ (enterFault p c s).fitted = s.fitted ∧
      (enterFault p c s).reader = s.reader ∧ (enterFault p c s).gate = s.gate ∧ (enterFault p c s).acct = s.acct ∧
      (enterFault p c s).journal = s.journal := by
  simp only [enterFault]; (repeat' split) <;> simp

@[simp] theorem dropLoads_frame (p : Ply) (s : State) :
    (dropLoads p s).pending = s.pending ∧ (dropLoads p s).part = s.part ∧ (dropLoads p s).link = s.link ∧
      (dropLoads p s).rxControl = s.rxControl ∧ (dropLoads p s).rxHead = s.rxHead ∧
      (dropLoads p s).rxReader = s.rxReader ∧ (dropLoads p s).headTx = s.headTx ∧ (dropLoads p s).lines = s.lines ∧
      (dropLoads p s).tracker = s.tracker ∧ (dropLoads p s).fitted = s.fitted ∧ (dropLoads p s).reader = s.reader ∧
      (dropLoads p s).gate = s.gate ∧ (dropLoads p s).control = s.control ∧ (dropLoads p s).acct = s.acct ∧
      (dropLoads p s).journal = s.journal := by
  simp only [dropLoads]; (repeat' split) <;> simp

@[simp] theorem protocolError_frame (p : Ply) (s : State) :
    (protocolError p s).pending = s.pending ∧ (protocolError p s).part = s.part ∧
      (protocolError p s).rxControl = s.rxControl ∧ (protocolError p s).rxHead = s.rxHead ∧
      (protocolError p s).rxReader = s.rxReader ∧ (protocolError p s).headTx = s.headTx ∧
      (protocolError p s).lines = s.lines ∧ (protocolError p s).tracker = s.tracker ∧
      (protocolError p s).fitted = s.fitted ∧ (protocolError p s).reader = s.reader ∧
      (protocolError p s).gate = s.gate ∧ (protocolError p s).acct = s.acct ∧
      (protocolError p s).journal = s.journal := by
  simp only [protocolError]; (repeat' split) <;> simp

@[simp] theorem sendLoad_frame (p : Ply) (r : SetRecord) (s : State) :
    (sendLoad p r s).pending = s.pending ∧ (sendLoad p r s).part = s.part ∧ (sendLoad p r s).link = s.link ∧
      (sendLoad p r s).rxControl = s.rxControl ∧ (sendLoad p r s).rxHead = s.rxHead ∧
      (sendLoad p r s).rxReader = s.rxReader ∧ (sendLoad p r s).lines = s.lines ∧
      (sendLoad p r s).tracker = s.tracker ∧ (sendLoad p r s).fitted = s.fitted ∧
      (sendLoad p r s).reader = s.reader ∧ (sendLoad p r s).gate = s.gate ∧ (sendLoad p r s).control = s.control ∧
      (sendLoad p r s).acct = s.acct ∧ (sendLoad p r s).journal = s.journal := by
  simp only [sendLoad]; (repeat' split) <;> simp

@[simp] theorem ageLoads_frame (p : Ply) (s : State) :
    (ageLoads p s).pending = s.pending ∧ (ageLoads p s).part = s.part ∧ (ageLoads p s).link = s.link ∧
      (ageLoads p s).rxControl = s.rxControl ∧ (ageLoads p s).rxHead = s.rxHead ∧
      (ageLoads p s).rxReader = s.rxReader ∧ (ageLoads p s).headTx = s.headTx ∧ (ageLoads p s).lines = s.lines ∧
      (ageLoads p s).tracker = s.tracker ∧ (ageLoads p s).table = s.table ∧ (ageLoads p s).fitted = s.fitted ∧
      (ageLoads p s).reader = s.reader ∧ (ageLoads p s).gate = s.gate ∧ (ageLoads p s).control = s.control ∧
      (ageLoads p s).acct = s.acct ∧ (ageLoads p s).journal = s.journal := by
  simp only [ageLoads]; (repeat' split) <;> simp

@[simp] theorem timeoutStep_frame (p : Ply) (s : State) :
    (timeoutStep p s).pending = s.pending ∧ (timeoutStep p s).part = s.part ∧
      (timeoutStep p s).rxControl = s.rxControl ∧ (timeoutStep p s).rxHead = s.rxHead ∧
      (timeoutStep p s).rxReader = s.rxReader ∧ (timeoutStep p s).headTx = s.headTx ∧
      (timeoutStep p s).lines = s.lines ∧ (timeoutStep p s).tracker = s.tracker ∧
      (timeoutStep p s).fitted = s.fitted ∧ (timeoutStep p s).reader = s.reader ∧ (timeoutStep p s).gate = s.gate ∧
      (timeoutStep p s).acct = s.acct ∧ (timeoutStep p s).journal = s.journal := by
  simp only [timeoutStep]; (repeat' split) <;> simp

@[simp] theorem spliceAfter_frame (p : Ply) (r : Option SetRecord) (s : State) :
    (spliceAfter p r s).pending = s.pending ∧ (spliceAfter p r s).part = s.part ∧ (spliceAfter p r s).link = s.link ∧
      (spliceAfter p r s).rxControl = s.rxControl ∧ (spliceAfter p r s).rxHead = s.rxHead ∧
      (spliceAfter p r s).rxReader = s.rxReader ∧ (spliceAfter p r s).headTx = s.headTx ∧
      (spliceAfter p r s).lines = s.lines ∧ (spliceAfter p r s).tracker = s.tracker ∧
      (spliceAfter p r s).fitted = s.fitted ∧ (spliceAfter p r s).reader = s.reader ∧
      (spliceAfter p r s).gate = s.gate ∧ (spliceAfter p r s).control = s.control ∧
      (spliceAfter p r s).acct = s.acct ∧ (spliceAfter p r s).journal = s.journal := by
  simp only [spliceAfter]; (repeat' split) <;> simp

@[simp] theorem numberSet_frame (p : Ply) (r : Option SetRecord) (s : State) :
    (numberSet p r s).pending = s.pending ∧ (numberSet p r s).part = s.part ∧ (numberSet p r s).link = s.link ∧
      (numberSet p r s).rxControl = s.rxControl ∧ (numberSet p r s).rxHead = s.rxHead ∧
      (numberSet p r s).rxReader = s.rxReader ∧ (numberSet p r s).lines = s.lines ∧
      (numberSet p r s).tracker = s.tracker ∧ (numberSet p r s).fitted = s.fitted ∧
      (numberSet p r s).reader = s.reader ∧ (numberSet p r s).gate = s.gate ∧ (numberSet p r s).control = s.control ∧
      (numberSet p r s).acct = s.acct ∧ (numberSet p r s).journal = s.journal := by
  simp only [numberSet]; (repeat' split) <;> simp

@[simp] theorem faultSet_frame (p : Ply) (r : Option SetRecord) (s : State) :
    (faultSet p r s).pending = s.pending ∧ (faultSet p r s).part = s.part ∧ (faultSet p r s).link = s.link ∧
      (faultSet p r s).rxControl = s.rxControl ∧ (faultSet p r s).rxHead = s.rxHead ∧
      (faultSet p r s).rxReader = s.rxReader ∧ (faultSet p r s).headTx = s.headTx ∧
      (faultSet p r s).lines = s.lines ∧ (faultSet p r s).tracker = s.tracker ∧ (faultSet p r s).fitted = s.fitted ∧
      (faultSet p r s).heads = s.heads ∧ (faultSet p r s).reader = s.reader ∧ (faultSet p r s).gate = s.gate ∧
      (faultSet p r s).control = s.control ∧ (faultSet p r s).acct = s.acct ∧ (faultSet p r s).journal = s.journal := by
  simp only [faultSet]; (repeat' split) <;> simp

@[simp] theorem loadingCue_frame (p : Ply) (r : Option SetRecord) (s : State) :
    (loadingCue p r s).pending = s.pending ∧ (loadingCue p r s).part = s.part ∧
      (loadingCue p r s).rxControl = s.rxControl ∧ (loadingCue p r s).rxHead = s.rxHead ∧
      (loadingCue p r s).rxReader = s.rxReader ∧ (loadingCue p r s).lines = s.lines ∧
      (loadingCue p r s).tracker = s.tracker ∧ (loadingCue p r s).fitted = s.fitted ∧
      (loadingCue p r s).reader = s.reader ∧ (loadingCue p r s).gate = s.gate ∧ (loadingCue p r s).acct = s.acct ∧
      (loadingCue p r s).journal = s.journal := by
  simp only [loadingCue]; (repeat' split) <;> simp

@[simp] theorem channelCue_frame (p : Ply) (i : Int) (r : Option SetRecord) (s : State) :
    (channelCue p i r s).pending = s.pending ∧ (channelCue p i r s).part = s.part ∧
      (channelCue p i r s).rxControl = s.rxControl ∧ (channelCue p i r s).rxHead = s.rxHead ∧
      (channelCue p i r s).rxReader = s.rxReader ∧ (channelCue p i r s).lines = s.lines ∧
      (channelCue p i r s).tracker = s.tracker ∧ (channelCue p i r s).fitted = s.fitted ∧
      (channelCue p i r s).reader = s.reader ∧ (channelCue p i r s).gate = s.gate ∧
      (channelCue p i r s).acct = s.acct ∧ (channelCue p i r s).journal = s.journal := by
  simp only [channelCue]; (repeat' split) <;> simp

@[simp] theorem takeDone_frame (p : Ply) (k : Nat) (b : Bool) (s : State) :
    (takeDone p k b s).pending = s.pending ∧ (takeDone p k b s).part = s.part ∧
      (takeDone p k b s).rxControl = s.rxControl ∧ (takeDone p k b s).rxHead = s.rxHead ∧
      (takeDone p k b s).rxReader = s.rxReader ∧ (takeDone p k b s).headTx = s.headTx ∧
      (takeDone p k b s).lines = s.lines ∧ (takeDone p k b s).tracker = s.tracker ∧
      (takeDone p k b s).fitted = s.fitted ∧ (takeDone p k b s).reader = s.reader ∧
      (takeDone p k b s).gate = s.gate ∧ (takeDone p k b s).acct = s.acct ∧ (takeDone p k b s).journal = s.journal := by
  simp only [takeDone]; (repeat' split) <;> simp

@[simp] theorem takeHeadFault_frame (p : Ply) (k : Nat) (s : State) :
    (takeHeadFault p k s).pending = s.pending ∧ (takeHeadFault p k s).part = s.part ∧
      (takeHeadFault p k s).rxControl = s.rxControl ∧ (takeHeadFault p k s).rxHead = s.rxHead ∧
      (takeHeadFault p k s).rxReader = s.rxReader ∧ (takeHeadFault p k s).headTx = s.headTx ∧
      (takeHeadFault p k s).lines = s.lines ∧ (takeHeadFault p k s).tracker = s.tracker ∧
      (takeHeadFault p k s).fitted = s.fitted ∧ (takeHeadFault p k s).reader = s.reader ∧
      (takeHeadFault p k s).gate = s.gate ∧ (takeHeadFault p k s).acct = s.acct ∧
      (takeHeadFault p k s).journal = s.journal := by
  simp only [takeHeadFault]; (repeat' split) <;> simp

@[simp] theorem takeHeadMalformed_frame (p : Ply) (s : State) :
    (takeHeadMalformed p s).pending = s.pending ∧ (takeHeadMalformed p s).part = s.part ∧
      (takeHeadMalformed p s).rxControl = s.rxControl ∧ (takeHeadMalformed p s).rxHead = s.rxHead ∧
      (takeHeadMalformed p s).rxReader = s.rxReader ∧ (takeHeadMalformed p s).headTx = s.headTx ∧
      (takeHeadMalformed p s).lines = s.lines ∧ (takeHeadMalformed p s).tracker = s.tracker ∧
      (takeHeadMalformed p s).fitted = s.fitted ∧ (takeHeadMalformed p s).reader = s.reader ∧
      (takeHeadMalformed p s).gate = s.gate ∧ (takeHeadMalformed p s).acct = s.acct ∧
      (takeHeadMalformed p s).journal = s.journal := by
  simp only [takeHeadMalformed]; (repeat' split) <;> simp

@[simp] theorem headMessage_frame (p : Ply) (k : Byte) (pl : List Byte) (s : State) :
    (headMessage p k pl s).pending = s.pending ∧ (headMessage p k pl s).part = s.part ∧
      (headMessage p k pl s).rxControl = s.rxControl ∧ (headMessage p k pl s).rxHead = s.rxHead ∧
      (headMessage p k pl s).rxReader = s.rxReader ∧ (headMessage p k pl s).headTx = s.headTx ∧
      (headMessage p k pl s).lines = s.lines ∧ (headMessage p k pl s).tracker = s.tracker ∧
      (headMessage p k pl s).fitted = s.fitted ∧ (headMessage p k pl s).reader = s.reader ∧
      (headMessage p k pl s).gate = s.gate ∧ (headMessage p k pl s).acct = s.acct ∧
      (headMessage p k pl s).journal = s.journal := by
  simp only [headMessage]; (repeat' split) <;> simp

@[simp] theorem skewHead_frame (p : Ply) (s : State) :
    (skewHead p s).pending = s.pending ∧ (skewHead p s).part = s.part ∧ (skewHead p s).rxControl = s.rxControl ∧
      (skewHead p s).rxHead = s.rxHead ∧ (skewHead p s).rxReader = s.rxReader ∧ (skewHead p s).headTx = s.headTx ∧
      (skewHead p s).lines = s.lines ∧ (skewHead p s).tracker = s.tracker ∧ (skewHead p s).fitted = s.fitted ∧
      (skewHead p s).reader = s.reader ∧ (skewHead p s).gate = s.gate ∧ (skewHead p s).acct = s.acct ∧
      (skewHead p s).journal = s.journal := by
  simp only [skewHead]; (repeat' split) <;> simp

@[simp] theorem resumeHead_frame (p : Ply) (s : State) :
    (resumeHead p s).pending = s.pending ∧ (resumeHead p s).part = s.part ∧ (resumeHead p s).link = s.link ∧
      (resumeHead p s).rxControl = s.rxControl ∧ (resumeHead p s).rxHead = s.rxHead ∧
      (resumeHead p s).rxReader = s.rxReader ∧ (resumeHead p s).headTx = s.headTx ∧
      (resumeHead p s).lines = s.lines ∧ (resumeHead p s).fitted = s.fitted ∧ (resumeHead p s).reader = s.reader ∧
      (resumeHead p s).gate = s.gate ∧ (resumeHead p s).acct = s.acct ∧ (resumeHead p s).journal = s.journal := by
  simp only [resumeHead]; (repeat' split) <;> simp

@[simp] theorem skewReader_frame (s : State) :
    (skewReader s).pending = s.pending ∧ (skewReader s).part = s.part ∧ (skewReader s).link = s.link ∧
      (skewReader s).rxControl = s.rxControl ∧ (skewReader s).rxHead = s.rxHead ∧
      (skewReader s).rxReader = s.rxReader ∧ (skewReader s).headTx = s.headTx ∧ (skewReader s).lines = s.lines ∧
      (skewReader s).tracker = s.tracker ∧ (skewReader s).table = s.table ∧ (skewReader s).fitted = s.fitted ∧
      (skewReader s).heads = s.heads ∧ (skewReader s).gate = s.gate ∧ (skewReader s).control = s.control ∧
      (skewReader s).acct = s.acct ∧ (skewReader s).journal = s.journal := by
  simp only [skewReader]; (repeat' split) <;> simp

@[simp] theorem skewGate_frame (s : State) :
    (skewGate s).pending = s.pending ∧ (skewGate s).part = s.part ∧ (skewGate s).link = s.link ∧
      (skewGate s).rxControl = s.rxControl ∧ (skewGate s).rxHead = s.rxHead ∧ (skewGate s).rxReader = s.rxReader ∧
      (skewGate s).headTx = s.headTx ∧ (skewGate s).lines = s.lines ∧ (skewGate s).tracker = s.tracker ∧
      (skewGate s).table = s.table ∧ (skewGate s).fitted = s.fitted ∧ (skewGate s).heads = s.heads ∧
      (skewGate s).reader = s.reader ∧ (skewGate s).control = s.control ∧ (skewGate s).acct = s.acct ∧
      (skewGate s).journal = s.journal := by
  simp only [skewGate]; (repeat' split) <;> simp

@[simp] theorem markMarriage_frame (i : Int) (b : Bool) (s : State) :
    (markMarriage i b s).pending = s.pending ∧ (markMarriage i b s).part = s.part ∧
      (markMarriage i b s).link = s.link ∧ (markMarriage i b s).rxControl = s.rxControl ∧
      (markMarriage i b s).rxHead = s.rxHead ∧ (markMarriage i b s).rxReader = s.rxReader ∧
      (markMarriage i b s).headTx = s.headTx ∧ (markMarriage i b s).lines = s.lines ∧
      (markMarriage i b s).tracker = s.tracker ∧ (markMarriage i b s).fitted = s.fitted ∧
      (markMarriage i b s).heads = s.heads ∧ (markMarriage i b s).reader = s.reader ∧
      (markMarriage i b s).gate = s.gate ∧ (markMarriage i b s).control = s.control ∧
      (markMarriage i b s).acct = s.acct ∧ (markMarriage i b s).journal = s.journal := by
  simp only [markMarriage]; (repeat' split) <;> simp

@[simp] theorem suspendReader_frame (st : ReaderState) (s : State) :
    (suspendReader st s).pending = s.pending ∧ (suspendReader st s).part = s.part ∧
      (suspendReader st s).rxControl = s.rxControl ∧ (suspendReader st s).rxHead = s.rxHead ∧
      (suspendReader st s).rxReader = s.rxReader ∧ (suspendReader st s).headTx = s.headTx ∧
      (suspendReader st s).lines = s.lines ∧ (suspendReader st s).tracker = s.tracker ∧
      (suspendReader st s).table = s.table ∧ (suspendReader st s).fitted = s.fitted ∧
      (suspendReader st s).heads = s.heads ∧ (suspendReader st s).gate = s.gate ∧
      (suspendReader st s).acct = s.acct ∧ (suspendReader st s).journal = s.journal := by
  simp only [suspendReader]; (repeat' split) <;> simp

@[simp] theorem readerUnitCue_frame (i : Int) (h : Bool) (s : State) :
    (readerUnitCue i h s).pending = s.pending ∧ (readerUnitCue i h s).part = s.part ∧
      (readerUnitCue i h s).rxControl = s.rxControl ∧ (readerUnitCue i h s).rxHead = s.rxHead ∧
      (readerUnitCue i h s).rxReader = s.rxReader ∧ (readerUnitCue i h s).headTx = s.headTx ∧
      (readerUnitCue i h s).lines = s.lines ∧ (readerUnitCue i h s).tracker = s.tracker ∧
      (readerUnitCue i h s).table = s.table ∧ (readerUnitCue i h s).fitted = s.fitted ∧
      (readerUnitCue i h s).heads = s.heads ∧ (readerUnitCue i h s).gate = s.gate ∧
      (readerUnitCue i h s).acct = s.acct ∧ (readerUnitCue i h s).journal = s.journal := by
  simp only [readerUnitCue]; (repeat' split) <;> simp

@[simp] theorem readerCue_frame (s : State) :
    (readerCue s).pending = s.pending ∧ (readerCue s).part = s.part ∧ (readerCue s).rxControl = s.rxControl ∧
      (readerCue s).rxHead = s.rxHead ∧ (readerCue s).rxReader = s.rxReader ∧ (readerCue s).headTx = s.headTx ∧
      (readerCue s).lines = s.lines ∧ (readerCue s).table = s.table ∧ (readerCue s).fitted = s.fitted ∧
      (readerCue s).heads = s.heads ∧ (readerCue s).gate = s.gate ∧ (readerCue s).acct = s.acct ∧
      (readerCue s).journal = s.journal := by
  simp only [readerCue]; (repeat' split) <;> simp

@[simp] theorem applyResult_frame (i : Nat) (r : SetRecord) (ls : List LaneEntry) (s : State) :
    (applyResult i r ls s).pending = s.pending ∧ (applyResult i r ls s).part = s.part ∧
      (applyResult i r ls s).rxControl = s.rxControl ∧ (applyResult i r ls s).rxHead = s.rxHead ∧
      (applyResult i r ls s).rxReader = s.rxReader ∧ (applyResult i r ls s).headTx = s.headTx ∧
      (applyResult i r ls s).lines = s.lines ∧ (applyResult i r ls s).tracker = s.tracker ∧
      (applyResult i r ls s).fitted = s.fitted ∧ (applyResult i r ls s).heads = s.heads ∧
      (applyResult i r ls s).gate = s.gate ∧ (applyResult i r ls s).acct = s.acct ∧
      (applyResult i r ls s).journal = s.journal := by
  simp only [applyResult]; (repeat' split) <;> simp

@[simp] theorem lateResult_frame (i : Nat) (n : RetireNote) (ls : List LaneEntry) (s : State) :
    (lateResult i n ls s).pending = s.pending ∧ (lateResult i n ls s).part = s.part ∧
      (lateResult i n ls s).rxControl = s.rxControl ∧ (lateResult i n ls s).rxHead = s.rxHead ∧
      (lateResult i n ls s).rxReader = s.rxReader ∧ (lateResult i n ls s).headTx = s.headTx ∧
      (lateResult i n ls s).lines = s.lines ∧ (lateResult i n ls s).tracker = s.tracker ∧
      (lateResult i n ls s).table = s.table ∧ (lateResult i n ls s).fitted = s.fitted ∧
      (lateResult i n ls s).heads = s.heads := by
  simp only [lateResult]; (repeat' split) <;> simp

@[simp] theorem resolveEntry_frame (e : ReaderEntry) (ls : List LaneEntry) (s : State) :
    (resolveEntry e ls s).pending = s.pending ∧ (resolveEntry e ls s).part = s.part ∧
      (resolveEntry e ls s).rxControl = s.rxControl ∧ (resolveEntry e ls s).rxHead = s.rxHead ∧
      (resolveEntry e ls s).rxReader = s.rxReader ∧ (resolveEntry e ls s).headTx = s.headTx ∧
      (resolveEntry e ls s).lines = s.lines ∧ (resolveEntry e ls s).tracker = s.tracker ∧
      (resolveEntry e ls s).fitted = s.fitted ∧ (resolveEntry e ls s).heads = s.heads := by
  simp only [resolveEntry]; (repeat' split) <;> simp

@[simp] theorem takeResult_frame (ls : List LaneEntry) (s : State) :
    (takeResult ls s).pending = s.pending ∧ (takeResult ls s).part = s.part ∧
      (takeResult ls s).rxControl = s.rxControl ∧ (takeResult ls s).rxHead = s.rxHead ∧
      (takeResult ls s).rxReader = s.rxReader ∧ (takeResult ls s).headTx = s.headTx ∧
      (takeResult ls s).lines = s.lines ∧ (takeResult ls s).tracker = s.tracker ∧
      (takeResult ls s).fitted = s.fitted ∧ (takeResult ls s).heads = s.heads := by
  simp only [takeResult]; (repeat' split) <;> simp

@[simp] theorem takeReaderFault_frame (k : Nat) (s : State) :
    (takeReaderFault k s).pending = s.pending ∧ (takeReaderFault k s).part = s.part ∧
      (takeReaderFault k s).rxControl = s.rxControl ∧ (takeReaderFault k s).rxHead = s.rxHead ∧
      (takeReaderFault k s).rxReader = s.rxReader ∧ (takeReaderFault k s).headTx = s.headTx ∧
      (takeReaderFault k s).lines = s.lines ∧ (takeReaderFault k s).tracker = s.tracker ∧
      (takeReaderFault k s).table = s.table ∧ (takeReaderFault k s).fitted = s.fitted ∧
      (takeReaderFault k s).heads = s.heads ∧ (takeReaderFault k s).gate = s.gate ∧
      (takeReaderFault k s).acct = s.acct ∧ (takeReaderFault k s).journal = s.journal := by
  simp only [takeReaderFault]; (repeat' split) <;> simp

@[simp] theorem takeReaderMalformed_frame (s : State) :
    (takeReaderMalformed s).pending = s.pending ∧ (takeReaderMalformed s).part = s.part ∧
      (takeReaderMalformed s).rxControl = s.rxControl ∧ (takeReaderMalformed s).rxHead = s.rxHead ∧
      (takeReaderMalformed s).rxReader = s.rxReader ∧ (takeReaderMalformed s).headTx = s.headTx ∧
      (takeReaderMalformed s).lines = s.lines ∧ (takeReaderMalformed s).tracker = s.tracker ∧
      (takeReaderMalformed s).table = s.table ∧ (takeReaderMalformed s).fitted = s.fitted ∧
      (takeReaderMalformed s).heads = s.heads ∧ (takeReaderMalformed s).gate = s.gate ∧
      (takeReaderMalformed s).acct = s.acct ∧ (takeReaderMalformed s).journal = s.journal := by
  simp only [takeReaderMalformed]; (repeat' split) <;> simp

@[simp] theorem readerMessage_frame (k : Byte) (pl : List Byte) (s : State) :
    (readerMessage k pl s).pending = s.pending ∧ (readerMessage k pl s).part = s.part ∧
      (readerMessage k pl s).rxControl = s.rxControl ∧ (readerMessage k pl s).rxHead = s.rxHead ∧
      (readerMessage k pl s).rxReader = s.rxReader ∧ (readerMessage k pl s).headTx = s.headTx ∧
      (readerMessage k pl s).lines = s.lines ∧ (readerMessage k pl s).tracker = s.tracker ∧
      (readerMessage k pl s).fitted = s.fitted ∧ (readerMessage k pl s).heads = s.heads := by
  simp only [readerMessage]; (repeat' split) <;> simp

@[simp] theorem noteRetirement_frame (i : Nat) (n : RetireNote) (s : State) :
    (noteRetirement i n s).pending = s.pending ∧ (noteRetirement i n s).part = s.part ∧
      (noteRetirement i n s).link = s.link ∧ (noteRetirement i n s).rxControl = s.rxControl ∧
      (noteRetirement i n s).rxHead = s.rxHead ∧ (noteRetirement i n s).rxReader = s.rxReader ∧
      (noteRetirement i n s).headTx = s.headTx ∧ (noteRetirement i n s).lines = s.lines ∧
      (noteRetirement i n s).tracker = s.tracker ∧ (noteRetirement i n s).table = s.table ∧
      (noteRetirement i n s).fitted = s.fitted ∧ (noteRetirement i n s).heads = s.heads ∧
      (noteRetirement i n s).gate = s.gate ∧ (noteRetirement i n s).control = s.control ∧
      (noteRetirement i n s).acct = s.acct ∧ (noteRetirement i n s).journal = s.journal := by
  simp only [noteRetirement]; (repeat' split) <;> simp

@[simp] theorem resumeReader_frame (s : State) :
    (resumeReader s).pending = s.pending ∧ (resumeReader s).part = s.part ∧ (resumeReader s).link = s.link ∧
      (resumeReader s).rxControl = s.rxControl ∧ (resumeReader s).rxHead = s.rxHead ∧
      (resumeReader s).rxReader = s.rxReader ∧ (resumeReader s).headTx = s.headTx ∧
      (resumeReader s).lines = s.lines ∧ (resumeReader s).table = s.table ∧ (resumeReader s).fitted = s.fitted ∧
      (resumeReader s).heads = s.heads ∧ (resumeReader s).gate = s.gate ∧ (resumeReader s).acct = s.acct ∧
      (resumeReader s).journal = s.journal := by
  simp only [resumeReader]; (repeat' split) <;> simp

@[simp] theorem addException_frame (e : BundleException) (s : State) :
    (addException e s).pending = s.pending ∧ (addException e s).part = s.part ∧ (addException e s).link = s.link ∧
      (addException e s).rxControl = s.rxControl ∧ (addException e s).rxHead = s.rxHead ∧
      (addException e s).rxReader = s.rxReader ∧ (addException e s).headTx = s.headTx ∧
      (addException e s).lines = s.lines ∧ (addException e s).tracker = s.tracker ∧
      (addException e s).table = s.table ∧ (addException e s).fitted = s.fitted ∧
      (addException e s).heads = s.heads ∧ (addException e s).reader = s.reader ∧ (addException e s).gate = s.gate ∧
      (addException e s).control = s.control ∧ (addException e s).journal = s.journal := by
  simp only [addException]; (repeat' split) <;> simp

@[simp] theorem deliverWrite_frame (r : SetRecord) (s : State) :
    (deliverWrite r s).pending = s.pending ∧ (deliverWrite r s).part = s.part ∧
      (deliverWrite r s).rxControl = s.rxControl ∧ (deliverWrite r s).rxHead = s.rxHead ∧
      (deliverWrite r s).rxReader = s.rxReader ∧ (deliverWrite r s).headTx = s.headTx ∧
      (deliverWrite r s).lines = s.lines ∧ (deliverWrite r s).tracker = s.tracker ∧
      (deliverWrite r s).fitted = s.fitted ∧ (deliverWrite r s).heads = s.heads ∧
      (deliverWrite r s).reader = s.reader ∧ (deliverWrite r s).control = s.control := by
  simp only [deliverWrite]; (repeat' split) <;> simp

@[simp] theorem waste_frame (s : State) :
    (waste s).pending = s.pending ∧ (waste s).part = s.part ∧ (waste s).link = s.link ∧
      (waste s).rxControl = s.rxControl ∧ (waste s).rxHead = s.rxHead ∧ (waste s).rxReader = s.rxReader ∧
      (waste s).headTx = s.headTx ∧ (waste s).lines = s.lines ∧ (waste s).tracker = s.tracker ∧
      (waste s).table = s.table ∧ (waste s).fitted = s.fitted ∧ (waste s).heads = s.heads ∧
      (waste s).reader = s.reader ∧ (waste s).control = s.control := by
  simp only [waste]; (repeat' split) <;> simp

@[simp] theorem resumeGate_frame (s : State) :
    (resumeGate s).pending = s.pending ∧ (resumeGate s).part = s.part ∧ (resumeGate s).link = s.link ∧
      (resumeGate s).rxControl = s.rxControl ∧ (resumeGate s).rxHead = s.rxHead ∧
      (resumeGate s).rxReader = s.rxReader ∧ (resumeGate s).headTx = s.headTx ∧ (resumeGate s).lines = s.lines ∧
      (resumeGate s).table = s.table ∧ (resumeGate s).fitted = s.fitted ∧ (resumeGate s).heads = s.heads ∧
      (resumeGate s).reader = s.reader ∧ (resumeGate s).gate = s.gate ∧ (resumeGate s).acct = s.acct ∧
      (resumeGate s).journal = s.journal := by
  simp only [resumeGate]; (repeat' split) <;> simp

@[simp] theorem endJog_frame (s : State) :
    (endJog s).pending = s.pending ∧ (endJog s).part = s.part ∧ (endJog s).link = s.link ∧
      (endJog s).rxControl = s.rxControl ∧ (endJog s).rxHead = s.rxHead ∧ (endJog s).rxReader = s.rxReader ∧
      (endJog s).headTx = s.headTx ∧ (endJog s).lines = s.lines ∧ (endJog s).tracker = s.tracker ∧
      (endJog s).table = s.table ∧ (endJog s).fitted = s.fitted ∧ (endJog s).heads = s.heads ∧
      (endJog s).reader = s.reader ∧ (endJog s).control = s.control ∧ (endJog s).acct = s.acct ∧
      (endJog s).journal = s.journal := by
  simp only [endJog]; (repeat' split) <;> simp

@[simp] theorem reportLine_frame (l : LineId) (b : Bool) (s : State) :
    (reportLine l b s).pending = s.pending ∧ (reportLine l b s).part = s.part ∧
      (reportLine l b s).rxControl = s.rxControl ∧ (reportLine l b s).rxHead = s.rxHead ∧
      (reportLine l b s).rxReader = s.rxReader ∧ (reportLine l b s).headTx = s.headTx ∧
      (reportLine l b s).lines = s.lines ∧ (reportLine l b s).tracker = s.tracker ∧
      (reportLine l b s).table = s.table ∧ (reportLine l b s).fitted = s.fitted ∧
      (reportLine l b s).heads = s.heads ∧ (reportLine l b s).reader = s.reader ∧ (reportLine l b s).gate = s.gate ∧
      (reportLine l b s).control = s.control ∧ (reportLine l b s).acct = s.acct ∧
      (reportLine l b s).journal = s.journal := by
  simp only [reportLine]; (repeat' split) <;> simp

@[simp] theorem spliceSet_frame (p : Ply) (i : Nat) (s : State) :
    (spliceSet p i s).pending = s.pending ∧ (spliceSet p i s).part = s.part ∧
      (spliceSet p i s).rxControl = s.rxControl ∧ (spliceSet p i s).rxHead = s.rxHead ∧
      (spliceSet p i s).rxReader = s.rxReader ∧ (spliceSet p i s).headTx = s.headTx ∧
      (spliceSet p i s).lines = s.lines ∧ (spliceSet p i s).tracker = s.tracker ∧
      (spliceSet p i s).fitted = s.fitted ∧ (spliceSet p i s).heads = s.heads ∧ (spliceSet p i s).reader = s.reader := by
  simp only [spliceSet]; (repeat' split) <;> simp

@[simp] theorem voidSet_frame (r : SetRecord) (c : VoidCause) (s : State) :
    ((voidSet r c s).1).pending = s.pending ∧ ((voidSet r c s).1).part = s.part ∧
      ((voidSet r c s).1).rxControl = s.rxControl ∧ ((voidSet r c s).1).rxHead = s.rxHead ∧
      ((voidSet r c s).1).rxReader = s.rxReader ∧ ((voidSet r c s).1).headTx = s.headTx ∧
      ((voidSet r c s).1).lines = s.lines ∧ ((voidSet r c s).1).tracker = s.tracker ∧
      ((voidSet r c s).1).fitted = s.fitted ∧ ((voidSet r c s).1).heads = s.heads ∧
      ((voidSet r c s).1).reader = s.reader ∧ ((voidSet r c s).1).gate = s.gate ∧
      ((voidSet r c s).1).journal = s.journal := by
  simp only [voidSet]; (repeat' split) <;> simp

@[simp] theorem cullRegular_frame (r : SetRecord) (c : VoidCause) (s : State) :
    ((cullRegular r c s).1).pending = s.pending ∧ ((cullRegular r c s).1).part = s.part ∧
      ((cullRegular r c s).1).rxControl = s.rxControl ∧ ((cullRegular r c s).1).rxHead = s.rxHead ∧
      ((cullRegular r c s).1).rxReader = s.rxReader ∧ ((cullRegular r c s).1).headTx = s.headTx ∧
      ((cullRegular r c s).1).lines = s.lines ∧ ((cullRegular r c s).1).tracker = s.tracker ∧
      ((cullRegular r c s).1).fitted = s.fitted ∧ ((cullRegular r c s).1).heads = s.heads ∧
      ((cullRegular r c s).1).reader = s.reader ∧ ((cullRegular r c s).1).gate = s.gate ∧
      ((cullRegular r c s).1).journal = s.journal := by
  simp only [cullRegular]; (repeat' split) <;> simp

@[simp] theorem cullEntry_frame (e : RemakeEntry) (c : VoidCause) (i : Nat) (s : State) :
    ((cullEntry e c i s).1).pending = s.pending ∧ ((cullEntry e c i s).1).part = s.part ∧
      ((cullEntry e c i s).1).rxControl = s.rxControl ∧ ((cullEntry e c i s).1).rxHead = s.rxHead ∧
      ((cullEntry e c i s).1).rxReader = s.rxReader ∧ ((cullEntry e c i s).1).headTx = s.headTx ∧
      ((cullEntry e c i s).1).lines = s.lines ∧ ((cullEntry e c i s).1).tracker = s.tracker ∧
      ((cullEntry e c i s).1).table = s.table ∧ ((cullEntry e c i s).1).fitted = s.fitted ∧
      ((cullEntry e c i s).1).heads = s.heads ∧ ((cullEntry e c i s).1).reader = s.reader ∧
      ((cullEntry e c i s).1).gate = s.gate ∧ ((cullEntry e c i s).1).journal = s.journal := by
  simp only [cullEntry]; (repeat' split) <;> simp

@[simp] theorem cullRemake_frame (r : SetRecord) (c : VoidCause) (s : State) :
    ((cullRemake r c s).1).pending = s.pending ∧ ((cullRemake r c s).1).part = s.part ∧
      ((cullRemake r c s).1).rxControl = s.rxControl ∧ ((cullRemake r c s).1).rxHead = s.rxHead ∧
      ((cullRemake r c s).1).rxReader = s.rxReader ∧ ((cullRemake r c s).1).headTx = s.headTx ∧
      ((cullRemake r c s).1).lines = s.lines ∧ ((cullRemake r c s).1).tracker = s.tracker ∧
      ((cullRemake r c s).1).fitted = s.fitted ∧ ((cullRemake r c s).1).heads = s.heads ∧
      ((cullRemake r c s).1).reader = s.reader ∧ ((cullRemake r c s).1).gate = s.gate ∧
      ((cullRemake r c s).1).journal = s.journal := by
  simp only [cullRemake]; (repeat' split) <;> simp

@[simp] theorem cullWrite_frame (r : SetRecord) (c : VoidCause) (s : State) :
    (cullWrite r c s).pending = s.pending ∧ (cullWrite r c s).part = s.part ∧
      (cullWrite r c s).rxControl = s.rxControl ∧ (cullWrite r c s).rxHead = s.rxHead ∧
      (cullWrite r c s).rxReader = s.rxReader ∧ (cullWrite r c s).headTx = s.headTx ∧
      (cullWrite r c s).lines = s.lines ∧ (cullWrite r c s).tracker = s.tracker ∧
      (cullWrite r c s).fitted = s.fitted ∧ (cullWrite r c s).heads = s.heads ∧ (cullWrite r c s).reader = s.reader := by
  simp only [cullWrite]; (repeat' split) <;> simp

@[simp] theorem retire_frame (r : SetRecord) (c : Option VoidCause) (s : State) :
    (retire r c s).pending = s.pending ∧ (retire r c s).part = s.part ∧ (retire r c s).rxControl = s.rxControl ∧
      (retire r c s).rxHead = s.rxHead ∧ (retire r c s).rxReader = s.rxReader ∧ (retire r c s).headTx = s.headTx ∧
      (retire r c s).lines = s.lines ∧ (retire r c s).fitted = s.fitted := by
  simp only [retire]; (repeat' split) <;> simp

@[simp] theorem retirePassed_frame (i : Nat) (s : State) :
    (retirePassed i s).pending = s.pending ∧ (retirePassed i s).part = s.part ∧
      (retirePassed i s).rxControl = s.rxControl ∧ (retirePassed i s).rxHead = s.rxHead ∧
      (retirePassed i s).rxReader = s.rxReader ∧ (retirePassed i s).headTx = s.headTx ∧
      (retirePassed i s).lines = s.lines ∧ (retirePassed i s).fitted = s.fitted := by
  simp only [retirePassed]; (repeat' split) <;> simp

@[simp] theorem gateForm_frame (i : Nat) (s : State) :
    (gateForm i s).pending = s.pending ∧ (gateForm i s).part = s.part ∧ (gateForm i s).rxControl = s.rxControl ∧
      (gateForm i s).rxHead = s.rxHead ∧ (gateForm i s).rxReader = s.rxReader ∧ (gateForm i s).headTx = s.headTx ∧
      (gateForm i s).lines = s.lines ∧ (gateForm i s).fitted = s.fitted := by
  simp only [gateForm]; (repeat' split) <;> simp

@[simp] theorem allocateRemake_frame (e : RemakeEntry) (i : Nat) (s : State) :
    ((allocateRemake e i s).1).pending = s.pending ∧ ((allocateRemake e i s).1).part = s.part ∧
      ((allocateRemake e i s).1).link = s.link ∧ ((allocateRemake e i s).1).rxControl = s.rxControl ∧
      ((allocateRemake e i s).1).rxHead = s.rxHead ∧ ((allocateRemake e i s).1).rxReader = s.rxReader ∧
      ((allocateRemake e i s).1).headTx = s.headTx ∧ ((allocateRemake e i s).1).lines = s.lines ∧
      ((allocateRemake e i s).1).tracker = s.tracker ∧ ((allocateRemake e i s).1).fitted = s.fitted ∧
      ((allocateRemake e i s).1).heads = s.heads ∧ ((allocateRemake e i s).1).reader = s.reader ∧
      ((allocateRemake e i s).1).gate = s.gate ∧ ((allocateRemake e i s).1).control = s.control := by
  simp only [allocateRemake]; (repeat' split) <;> simp

@[simp] theorem keepRegular_frame (i : Nat) (ns : List Num) (x : Nat) (ms : List Mark) (s : State) :
    ((keepRegular i ns x ms s).1).pending = s.pending ∧ ((keepRegular i ns x ms s).1).part = s.part ∧
      ((keepRegular i ns x ms s).1).rxControl = s.rxControl ∧ ((keepRegular i ns x ms s).1).rxHead = s.rxHead ∧
      ((keepRegular i ns x ms s).1).rxReader = s.rxReader ∧ ((keepRegular i ns x ms s).1).headTx = s.headTx ∧
      ((keepRegular i ns x ms s).1).lines = s.lines ∧ ((keepRegular i ns x ms s).1).fitted = s.fitted ∧
      ((keepRegular i ns x ms s).1).control = s.control := by
  simp only [keepRegular]; (repeat' split) <;> simp

@[simp] theorem allocateRegular_frame (i : Nat) (s : State) :
    ((allocateRegular i s).1).pending = s.pending ∧ ((allocateRegular i s).1).part = s.part ∧
      ((allocateRegular i s).1).rxControl = s.rxControl ∧ ((allocateRegular i s).1).rxHead = s.rxHead ∧
      ((allocateRegular i s).1).rxReader = s.rxReader ∧ ((allocateRegular i s).1).headTx = s.headTx ∧
      ((allocateRegular i s).1).lines = s.lines ∧ ((allocateRegular i s).1).fitted = s.fitted := by
  simp only [allocateRegular]; (repeat' split) <;> simp

@[simp] theorem allocateAt_frame (i : Nat) (s : State) :
    ((allocateAt i s).1).pending = s.pending ∧ ((allocateAt i s).1).part = s.part ∧
      ((allocateAt i s).1).rxControl = s.rxControl ∧ ((allocateAt i s).1).rxHead = s.rxHead ∧
      ((allocateAt i s).1).rxReader = s.rxReader ∧ ((allocateAt i s).1).headTx = s.headTx ∧
      ((allocateAt i s).1).lines = s.lines ∧ ((allocateAt i s).1).fitted = s.fitted := by
  simp only [allocateAt]; (repeat' split) <;> simp

@[simp] theorem allocate_frame (i : Nat) (s : State) :
    ((allocate i s).1).pending = s.pending ∧ ((allocate i s).1).part = s.part ∧
      ((allocate i s).1).rxControl = s.rxControl ∧ ((allocate i s).1).rxHead = s.rxHead ∧
      ((allocate i s).1).rxReader = s.rxReader ∧ ((allocate i s).1).headTx = s.headTx ∧
      ((allocate i s).1).lines = s.lines ∧ ((allocate i s).1).fitted = s.fitted := by
  simp only [allocate]; (repeat' split) <;> simp

@[simp] theorem tableCue_frame (p : Ply) (i : Int) (s : State) :
    ((tableCue p i s).1).pending = s.pending ∧ ((tableCue p i s).1).part = s.part ∧
      ((tableCue p i s).1).rxControl = s.rxControl ∧ ((tableCue p i s).1).rxHead = s.rxHead ∧
      ((tableCue p i s).1).rxReader = s.rxReader ∧ ((tableCue p i s).1).headTx = s.headTx ∧
      ((tableCue p i s).1).lines = s.lines ∧ ((tableCue p i s).1).fitted = s.fitted := by
  simp only [tableCue]; (repeat' split) <;> simp

@[simp] theorem headCue_frame (p : Ply) (s : State) :
    (headCue p s).pending = s.pending ∧ (headCue p s).part = s.part ∧ (headCue p s).rxControl = s.rxControl ∧
      (headCue p s).rxHead = s.rxHead ∧ (headCue p s).rxReader = s.rxReader ∧ (headCue p s).lines = s.lines ∧
      (headCue p s).fitted = s.fitted := by
  simp only [headCue]; (repeat' split) <;> simp

@[simp] theorem flushRow_frame (r : PendingRow) (s : State) :
    (flushRow r s).pending = s.pending ∧ (flushRow r s).part = s.part ∧ (flushRow r s).rxControl = s.rxControl ∧
      (flushRow r s).rxHead = s.rxHead ∧ (flushRow r s).rxReader = s.rxReader ∧ (flushRow r s).headTx = s.headTx ∧
      (flushRow r s).lines = s.lines ∧ (flushRow r s).tracker = s.tracker ∧ (flushRow r s).fitted = s.fitted ∧
      (flushRow r s).heads = s.heads ∧ (flushRow r s).reader = s.reader ∧ (flushRow r s).gate = s.gate := by
  simp only [flushRow]; (repeat' split) <;> simp

@[simp] theorem leaveSlot_frame (i : Nat) (s : State) :
    (leaveSlot i s).pending = s.pending ∧ (leaveSlot i s).part = s.part ∧ (leaveSlot i s).link = s.link ∧
      (leaveSlot i s).rxControl = s.rxControl ∧ (leaveSlot i s).rxHead = s.rxHead ∧
      (leaveSlot i s).rxReader = s.rxReader ∧ (leaveSlot i s).headTx = s.headTx ∧ (leaveSlot i s).lines = s.lines ∧
      (leaveSlot i s).tracker = s.tracker ∧ (leaveSlot i s).fitted = s.fitted ∧ (leaveSlot i s).heads = s.heads ∧
      (leaveSlot i s).reader = s.reader ∧ (leaveSlot i s).gate = s.gate ∧ (leaveSlot i s).control = s.control ∧
      (leaveSlot i s).acct = s.acct ∧ (leaveSlot i s).journal = s.journal := by
  simp only [leaveSlot]; (repeat' split) <;> simp

@[simp] theorem removeRow_frame (w : PendingRow) (s : State) :
    (removeRow w s).pending = s.pending ∧ (removeRow w s).part = s.part ∧ (removeRow w s).link = s.link ∧
      (removeRow w s).rxControl = s.rxControl ∧ (removeRow w s).rxHead = s.rxHead ∧
      (removeRow w s).rxReader = s.rxReader ∧ (removeRow w s).headTx = s.headTx ∧ (removeRow w s).lines = s.lines ∧
      (removeRow w s).tracker = s.tracker ∧ (removeRow w s).table = s.table ∧ (removeRow w s).fitted = s.fitted ∧
      (removeRow w s).heads = s.heads ∧ (removeRow w s).reader = s.reader ∧ (removeRow w s).gate = s.gate ∧
      (removeRow w s).control = s.control ∧ (removeRow w s).journal = s.journal := by
  simp only [removeRow]; (repeat' split) <;> simp

@[simp] theorem abortRecord_frame (i : Nat) (s : State) :
    (abortRecord i s).pending = s.pending ∧ (abortRecord i s).part = s.part ∧
      (abortRecord i s).rxControl = s.rxControl ∧ (abortRecord i s).rxHead = s.rxHead ∧
      (abortRecord i s).rxReader = s.rxReader ∧ (abortRecord i s).headTx = s.headTx ∧
      (abortRecord i s).lines = s.lines ∧ (abortRecord i s).tracker = s.tracker ∧
      (abortRecord i s).fitted = s.fitted ∧ (abortRecord i s).heads = s.heads ∧ (abortRecord i s).reader = s.reader ∧
      (abortRecord i s).gate = s.gate := by
  simp only [abortRecord]; (repeat' split) <;> simp

@[simp] theorem abortEntry_frame (e : RemakeEntry) (s : State) :
    (abortEntry e s).pending = s.pending ∧ (abortEntry e s).part = s.part ∧
      (abortEntry e s).rxControl = s.rxControl ∧ (abortEntry e s).rxHead = s.rxHead ∧
      (abortEntry e s).rxReader = s.rxReader ∧ (abortEntry e s).headTx = s.headTx ∧
      (abortEntry e s).lines = s.lines ∧ (abortEntry e s).tracker = s.tracker ∧ (abortEntry e s).table = s.table ∧
      (abortEntry e s).fitted = s.fitted ∧ (abortEntry e s).heads = s.heads ∧ (abortEntry e s).reader = s.reader ∧
      (abortEntry e s).gate = s.gate := by
  simp only [abortEntry]; (repeat' split) <;> simp

@[simp] theorem recoverEntry_frame (b : Bool) (e : RemakeEntry) (s : State) :
    (recoverEntry b e s).pending = s.pending ∧ (recoverEntry b e s).part = s.part ∧
      (recoverEntry b e s).rxControl = s.rxControl ∧ (recoverEntry b e s).rxHead = s.rxHead ∧
      (recoverEntry b e s).rxReader = s.rxReader ∧ (recoverEntry b e s).headTx = s.headTx ∧
      (recoverEntry b e s).lines = s.lines ∧ (recoverEntry b e s).tracker = s.tracker ∧
      (recoverEntry b e s).table = s.table ∧ (recoverEntry b e s).fitted = s.fitted ∧
      (recoverEntry b e s).heads = s.heads ∧ (recoverEntry b e s).reader = s.reader ∧
      (recoverEntry b e s).gate = s.gate := by
  simp only [recoverEntry]; (repeat' split) <;> simp

@[simp] theorem recoverSet_frame (b : Bool) (ns : List Num) (s : State) :
    (recoverSet b ns s).pending = s.pending ∧ (recoverSet b ns s).part = s.part ∧
      (recoverSet b ns s).rxControl = s.rxControl ∧ (recoverSet b ns s).rxHead = s.rxHead ∧
      (recoverSet b ns s).rxReader = s.rxReader ∧ (recoverSet b ns s).headTx = s.headTx ∧
      (recoverSet b ns s).lines = s.lines ∧ (recoverSet b ns s).tracker = s.tracker ∧
      (recoverSet b ns s).table = s.table ∧ (recoverSet b ns s).fitted = s.fitted ∧
      (recoverSet b ns s).heads = s.heads ∧ (recoverSet b ns s).reader = s.reader ∧
      (recoverSet b ns s).gate = s.gate := by
  simp only [recoverSet]; (repeat' split) <;> simp

@[simp] theorem defineBlock_frame (f : JobDef → JobDef) (s : State) :
    (defineBlock f s).pending = s.pending ∧ (defineBlock f s).part = s.part ∧
      (defineBlock f s).rxControl = s.rxControl ∧ (defineBlock f s).rxHead = s.rxHead ∧
      (defineBlock f s).rxReader = s.rxReader ∧ (defineBlock f s).headTx = s.headTx ∧
      (defineBlock f s).lines = s.lines ∧ (defineBlock f s).tracker = s.tracker ∧ (defineBlock f s).table = s.table ∧
      (defineBlock f s).fitted = s.fitted ∧ (defineBlock f s).reader = s.reader ∧ (defineBlock f s).gate = s.gate ∧
      (defineBlock f s).control = s.control := by
  simp only [defineBlock]; (repeat' split) <;> simp

@[simp] theorem commitJob_frame (s : State) :
    (commitJob s).pending = s.pending ∧ (commitJob s).part = s.part ∧ (commitJob s).rxControl = s.rxControl ∧
      (commitJob s).rxHead = s.rxHead ∧ (commitJob s).rxReader = s.rxReader ∧ (commitJob s).headTx = s.headTx ∧
      (commitJob s).lines = s.lines ∧ (commitJob s).tracker = s.tracker ∧ (commitJob s).table = s.table ∧
      (commitJob s).fitted = s.fitted ∧ (commitJob s).heads = s.heads ∧ (commitJob s).reader = s.reader ∧
      (commitJob s).gate = s.gate ∧ (commitJob s).control = s.control := by
  simp only [commitJob]; (repeat' split) <;> simp

@[simp] theorem setUpRun_frame (s : State) :
    (setUpRun s).pending = s.pending ∧ (setUpRun s).part = s.part ∧ (setUpRun s).link = s.link ∧
      (setUpRun s).rxControl = s.rxControl ∧ (setUpRun s).rxHead = s.rxHead ∧ (setUpRun s).rxReader = s.rxReader ∧
      (setUpRun s).headTx = s.headTx ∧ (setUpRun s).lines = s.lines ∧ (setUpRun s).fitted = s.fitted ∧
      (setUpRun s).control = s.control ∧ (setUpRun s).acct = s.acct ∧ (setUpRun s).journal = s.journal := by
  simp only [setUpRun]; (repeat' split) <;> simp

@[simp] theorem raiseStanding_frame (s : State) :
    (raiseStanding s).pending = s.pending ∧ (raiseStanding s).part = s.part ∧
      (raiseStanding s).rxControl = s.rxControl ∧ (raiseStanding s).rxHead = s.rxHead ∧
      (raiseStanding s).rxReader = s.rxReader ∧ (raiseStanding s).headTx = s.headTx ∧
      (raiseStanding s).lines = s.lines ∧ (raiseStanding s).tracker = s.tracker ∧ (raiseStanding s).table = s.table ∧
      (raiseStanding s).fitted = s.fitted ∧ (raiseStanding s).heads = s.heads ∧ (raiseStanding s).reader = s.reader ∧
      (raiseStanding s).gate = s.gate := by
  simp only [raiseStanding]; (repeat' split) <;> simp

@[simp] theorem startNew_frame (s : State) :
    (startNew s).pending = s.pending ∧ (startNew s).part = s.part ∧ (startNew s).rxControl = s.rxControl ∧
      (startNew s).rxHead = s.rxHead ∧ (startNew s).rxReader = s.rxReader ∧ (startNew s).headTx = s.headTx ∧
      (startNew s).lines = s.lines ∧ (startNew s).fitted = s.fitted := by
  simp only [startNew]; (repeat' split) <;> simp

@[simp] theorem startResumed_frame (s : State) :
    (startResumed s).pending = s.pending ∧ (startResumed s).part = s.part ∧
      (startResumed s).rxControl = s.rxControl ∧ (startResumed s).rxHead = s.rxHead ∧
      (startResumed s).rxReader = s.rxReader ∧ (startResumed s).headTx = s.headTx ∧
      (startResumed s).lines = s.lines ∧ (startResumed s).fitted = s.fitted := by
  simp only [startResumed]; (repeat' split) <;> simp

@[simp] theorem releaseHold_frame (s : State) :
    (releaseHold s).pending = s.pending ∧ (releaseHold s).part = s.part ∧ (releaseHold s).rxControl = s.rxControl ∧
      (releaseHold s).rxHead = s.rxHead ∧ (releaseHold s).rxReader = s.rxReader ∧ (releaseHold s).headTx = s.headTx ∧
      (releaseHold s).lines = s.lines ∧ (releaseHold s).table = s.table ∧ (releaseHold s).fitted = s.fitted := by
  simp only [releaseHold]; (repeat' split) <;> simp

@[simp] theorem closeJob_frame (s : State) :
    (closeJob s).pending = s.pending ∧ (closeJob s).part = s.part ∧ (closeJob s).rxControl = s.rxControl ∧
      (closeJob s).rxHead = s.rxHead ∧ (closeJob s).rxReader = s.rxReader ∧ (closeJob s).headTx = s.headTx ∧
      (closeJob s).lines = s.lines ∧ (closeJob s).tracker = s.tracker ∧ (closeJob s).table = s.table ∧
      (closeJob s).fitted = s.fitted ∧ (closeJob s).reader = s.reader ∧ (closeJob s).gate = s.gate ∧
      (closeJob s).control = s.control := by
  simp only [closeJob]; (repeat' split) <;> simp

@[simp] theorem makeJump_frame (a b : Num) (s : State) :
    (makeJump a b s).pending = s.pending ∧ (makeJump a b s).part = s.part ∧
      (makeJump a b s).rxControl = s.rxControl ∧ (makeJump a b s).rxHead = s.rxHead ∧
      (makeJump a b s).rxReader = s.rxReader ∧ (makeJump a b s).headTx = s.headTx ∧
      (makeJump a b s).lines = s.lines ∧ (makeJump a b s).tracker = s.tracker ∧ (makeJump a b s).table = s.table ∧
      (makeJump a b s).fitted = s.fitted ∧ (makeJump a b s).heads = s.heads ∧ (makeJump a b s).reader = s.reader ∧
      (makeJump a b s).gate = s.gate := by
  simp only [makeJump]; (repeat' split) <;> simp

end Sys2Proof.Machine
end

