-- ==== Sys2Proof/Laws/Table.lean ====
section
/-! SUPPORT. The set table's ring: what each slot operation leaves in every slot, and that each keeps the canonical
form. -/

namespace Sys2Proof.Machine
open Sys2Proof

/-- The order of the slots in the list. -/
abbrev SlotBefore (x y : Slot) : Prop := slotOf x.index < slotOf y.index

theorem slotsRise_iff_pairwise (xs : List Slot) : slotsRise xs = true ↔ xs.Pairwise SlotBefore := by
  induction xs with
  | nil => simp [slotsRise]
  | cons x xs ih =>
    cases xs with
    | nil => simp [slotsRise]
    | cons y ys =>
      simp only [slotsRise, Bool.and_eq_true, decide_eq_true_eq, ih]
      constructor
      · rintro ⟨h, hp⟩
        refine List.Pairwise.cons (fun z hz => ?_) hp
        rcases List.mem_cons.mp hz with rfl | hz
        · exact h
        · exact Nat.lt_trans h (List.rel_of_pairwise_cons hp hz)
      · intro hp
        exact ⟨List.rel_of_pairwise_cons hp (by simp), hp.of_cons⟩

theorem SetTable.wf_iff (t : SetTable) : t.wf = true ↔ t.slots.Pairwise SlotBefore := slotsRise_iff_pairwise t.slots

/-- What a slot may hold after a put. -/
theorem mem_putSlot {x y : Slot} {xs : List Slot} (h : y ∈ putSlot x xs) : y = x ∨ y ∈ xs := by
  induction xs with
  | nil => simpa [putSlot] using h
  | cons z zs ih =>
    simp only [putSlot] at h
    split at h
    · simpa using h
    · split at h
      · rcases List.mem_cons.mp h with h | h
        · exact Or.inl h
        · exact Or.inr (List.mem_cons_of_mem _ h)
      · rcases List.mem_cons.mp h with h | h
        · exact Or.inr (by simp [h])
        · rcases ih h with h | h
          · exact Or.inl h
          · exact Or.inr (List.mem_cons_of_mem _ h)

theorem putSlot_pairwise (x : Slot) {xs : List Slot} (h : xs.Pairwise SlotBefore) :
    (putSlot x xs).Pairwise SlotBefore := by
  induction xs with
  | nil => simp [putSlot]
  | cons y ys ih =>
    have hy := fun z (hz : z ∈ ys) => List.rel_of_pairwise_cons h hz
    simp only [putSlot]
    split
    · rename_i hlt
      refine List.Pairwise.cons (fun z hz => ?_) h
      rcases List.mem_cons.mp hz with rfl | hz
      · exact hlt
      · exact Nat.lt_trans hlt (hy z hz)
    · split
      · rename_i heq
        refine List.Pairwise.cons (fun z hz => ?_) h.of_cons
        show slotOf x.index < slotOf z.index
        rw [heq]; exact hy z hz
      · refine List.Pairwise.cons (fun z hz => ?_) (ih h.of_cons)
        rcases mem_putSlot hz with rfl | hz
        · show slotOf y.index < slotOf z.index
          omega
        · exact hy z hz

/-- A put slot holds what was put. -/
@[simp] theorem findSlot_putSlot_self (x : Slot) (xs : List Slot) :
    findSlot (slotOf x.index) (putSlot x xs) = some x := by
  induction xs with
  | nil => simp [putSlot, findSlot]
  | cons y ys ih =>
    simp only [putSlot]
    split
    · simp [findSlot]
    · split
      · simp [findSlot]
      · rename_i h
        simp [findSlot, Ne.symm h, ih]

/-- A put leaves every other slot as it stands. -/
theorem findSlot_putSlot_ne {k : Nat} {x : Slot} (h : slotOf x.index ≠ k) (xs : List Slot) :
    findSlot k (putSlot x xs) = findSlot k xs := by
  induction xs with
  | nil => simp [putSlot, findSlot, h]
  | cons y ys ih =>
    simp only [putSlot]
    split
    · simp [findSlot, h]
    · split
      · rename_i hxy
        simp [findSlot, h, ← hxy]
      · simp [findSlot, ih]

/-- A cleared slot is EMPTY. -/
@[simp] theorem findSlot_clearSlot_self (k : Nat) (xs : List Slot) : findSlot k (clearSlot k xs) = none := by
  induction xs with
  | nil => rfl
  | cons y ys ih =>
    by_cases h : slotOf y.index = k
    · simpa [clearSlot, h] using ih
    · simpa [clearSlot, findSlot, h] using ih

/-- A clear leaves every other slot as it stands. -/
theorem findSlot_clearSlot_ne {j k : Nat} (h : j ≠ k) (xs : List Slot) :
    findSlot j (clearSlot k xs) = findSlot j xs := by
  induction xs with
  | nil => rfl
  | cons y ys ih =>
    by_cases hk : slotOf y.index = k
    · have hj : ¬ slotOf y.index = j := fun e => h (e ▸ hk)
      rw [show clearSlot k (y :: ys) = clearSlot k ys by simp [clearSlot, hk], ih]
      simp [findSlot, hj]
    · rw [show clearSlot k (y :: ys) = y :: clearSlot k ys by simp [clearSlot, hk]]
      simp [findSlot, ih]

theorem filter_pairwise (q : Slot → Bool) {xs : List Slot} (h : xs.Pairwise SlotBefore) :
    (xs.filter q).Pairwise SlotBefore := h.sublist List.filter_sublist

theorem map_pairwise {f : Slot → Slot} (hf : ∀ x, (f x).index = x.index) {xs : List Slot}
    (h : xs.Pairwise SlotBefore) : (xs.map f).Pairwise SlotBefore :=
  List.pairwise_map.mpr (h.imp fun {a b} hab => by simpa [SlotBefore, hf] using hab)

theorem Slot.modifyOpen_index (i : Nat) (f : SetRecord → SetRecord) (hf : ∀ r, (f r).index = r.index) (x : Slot) :
    (Slot.modifyOpen i f x).index = x.index := by
  cases x with
  | trace t => rfl
  | record r =>
    simp only [Slot.modifyOpen]
    split
    · exact hf r
    · rfl

@[simp] theorem Slot.sweep_index (p : Ply) (x : Slot) : (Slot.sweep p x).index = x.index := by
  cases x with
  | trace t => rfl
  | record r =>
    simp only [Slot.sweep]
    split <;> rfl

@[simp] theorem SetRecord.updatePly_index (r : SetRecord) (p : Ply) (st : PlyStatus) :
    (r.updatePly p st).index = r.index := by
  simp only [SetRecord.updatePly]
  split <;> rfl

/-! ### Each table operation keeps the canonical form -/

theorem SetTable.putRecord_wf {t : SetTable} (r : SetRecord) (h : t.wf = true) : (t.putRecord r).wf = true := by
  rw [SetTable.wf_iff] at *; exact putSlot_pairwise _ h

theorem SetTable.putTrace_wf {t : SetTable} (u : Trace) (h : t.wf = true) : (t.putTrace u).wf = true := by
  rw [SetTable.wf_iff] at *; exact putSlot_pairwise _ h

theorem SetTable.modifyOpen_wf {t : SetTable} (i : Nat) {f : SetRecord → SetRecord} (hf : ∀ r, (f r).index = r.index)
    (h : t.wf = true) : (t.modifyOpen i f).wf = true := by
  rw [SetTable.wf_iff] at *; exact map_pairwise (Slot.modifyOpen_index i f hf) h

theorem updatePly_wf (p : Ply) (i : Nat) (st : PlyStatus) {s : State} (h : s.table.wf = true) :
    (updatePly p i st s).table.wf = true := SetTable.modifyOpen_wf i (by simp) h

theorem updatePlies_wf (p : Ply) (is : List Nat) (st : PlyStatus) {s : State} (h : s.table.wf = true) :
    (updatePlies p is st s).table.wf = true := by
  induction is generalizing s with
  | nil => exact h
  | cons i is ih => exact ih (updatePly_wf p i st h)

theorem sweepPly_wf (p : Ply) {s : State} (h : s.table.wf = true) : (sweepPly p s).table.wf = true := by
  rw [SetTable.wf_iff] at *; exact map_pairwise (Slot.sweep_index p) h

theorem updateMarriage_wf (i : Nat) (m : Marriage) {s : State} (h : s.table.wf = true) :
    (updateMarriage i m s).table.wf = true := SetTable.modifyOpen_wf i (fun _ => rfl) h

theorem updateVerification_wf (i : Nat) (v : Verification) {s : State} (h : s.table.wf = true) :
    (updateVerification i v s).table.wf = true := SetTable.modifyOpen_wf i (fun _ => rfl) h

theorem markHostCull_wf (i : Nat) {s : State} (h : s.table.wf = true) : (markHostCull i s).table.wf = true :=
  SetTable.modifyOpen_wf i (fun _ => rfl) h

theorem leaveSlot_wf (i : Nat) {s : State} (h : s.table.wf = true) : (leaveSlot i s).table.wf = true := by
  rw [SetTable.wf_iff] at *; exact filter_pairwise _ h

theorem clearTraces_wf {s : State} (h : s.table.wf = true) : (clearTraces s).table.wf = true := by
  rw [SetTable.wf_iff] at *; exact filter_pairwise _ h

@[simp] theorem raiseFrontier_slots (f : Nat) (s : State) : (raiseFrontier f s).table.slots = s.table.slots := rfl

end Sys2Proof.Machine
end

