-- ==== Sys2Proof/Laws/Link.lean ====
section
/-! SUPPORT. What the link does with a request that arrives, what the transmitter chooses, what the report queue keeps,
and what each command's meaning is in terms of the effect it names. -/

namespace Sys2Proof.Machine
open Sys2Proof

/-! ### Kinds -/

@[simp] theorem RequestKind.ofByte_code (k : RequestKind) : RequestKind.ofByte k.code = some k := by
  cases k <;> decide

@[simp] theorem replyFrame_request (k : RequestKind) (tag : Byte) (pl out : List Byte) :
    replyFrame ⟨k.code, tag, pl⟩ out = replyTo k tag out := by
  simp [replyFrame, replyTo, replyKind]

theorem exec_ofRequest (k : RequestKind) (tag : Byte) (pl : List Byte) (s : State) :
    exec (Instr.ofRequest k tag pl) s = onRequest k tag pl s := by
  cases k <;> rfl

/-! ### Readiness -/

theorem State.ready_iff (s : State) :
    s.ready = true ↔ s.live = true ∧ s.link.queue = [] ∧ s.link.outstanding = false ∧ s.rxControl ≠ .awaitMark := by
  simp [State.ready, and_assoc]

theorem takeFrame_eq {u s' : State} {f : CtlFrame} {out : List Byte} (h : takeRequest f u = (s', out)) :
    takeFrame f u = s'.mapLink fun l => { l with reply := some (replyFrame f out) } := by
  simp [takeFrame, h]

/-- A request that arrives at a ready link is taken at once: its reply goes to the transmitter, and everything else is
as its taking leaves it. -/
theorem onRequest_ready {s s' : State} {k : RequestKind} {tag : Byte} {pl out : List Byte} (h : s.ready = true)
    (hx : takeRequest ⟨k.code, tag, pl⟩ { openJournal s with rxControl := .hunting } = (s', out))
    (hr : s'.rxControl = .hunting) : onRequest k tag pl s = .next (s'.answered (replyTo k tag out)) := by
  obtain ⟨hl, hq, ho, hrx⟩ := s.ready_iff.mp h
  have key : controlFrameWhole ⟨k.code, tag, pl⟩ (openJournal s)
      = takeFrame ⟨k.code, tag, pl⟩ { openJournal s with rxControl := .hunting } := by
    have ha : frameArrives ⟨k.code, tag, pl⟩ { openJournal s with rxControl := .hunting }
        = takeFrame ⟨k.code, tag, pl⟩ { openJournal s with rxControl := .hunting } := by
      simp only [frameArrives, openJournal, hq, List.length_nil, Config.requestQueueSize]
      simp only [State.mapLink, service, hq, List.nil_append, Link.outstanding]
      have ho' := ho
      simp only [Link.outstanding] at ho'
      simp only [ho', Bool.false_eq_true, if_false, Nat.zero_lt_succ, if_true]
      congr 1
      simp [← hq]
    cases hc : s.rxControl with
    | awaitMark => exact absurd hc hrx
    | hunting =>
      rw [← ha]
      simp [controlFrameWhole, openJournal, hc]
    | inFrame g n =>
      rw [← ha]
      simp [controlFrameWhole, openJournal, hc]
  rw [onRequest, onEvent, taken, if_pos hl, key, takeFrame_eq hx, replyFrame_request]
  cases s'
  cases hr
  rfl

end Sys2Proof.Machine
end

