-- ==== Sys2Proof/Tests/Slice0.lean ====
section
/-! SUPPORT. The author's own tests: what WellFormed refuses, the manual's worked tables, one or two steps of each
command on small states, and for each obligation with hypotheses a concrete state and operands that meet them. -/

namespace Sys2Proof.Tests
open Sys2Proof Sys2Proof.Machine
set_option maxRecDepth 100000

/-! ### Small states -/

/-- Where a command leads. -/
def after (c : Instr) (s : State) : State := match exec c s with | .next t => t | _ => s
/-- The payload of the frame that the control link sends after a command. -/
def sent (c : Instr) (s : State) : List Byte := ((after c s).link.sending.map fun x => x.2.payload).getD []

/-- The serial k as a number with no series and no check. -/
def num (k : Nat) : Machine.Num := ⟨none, k, none⟩
/-- Ply 1 engaged at path length 1; reader 1 and gate 2 pitches on; T = 3; two records a load. -/
def job : JobDef :=
  { JobDef.default with
    geometry := { Geometry.default with engaged := (PerPly.const false).set .ply1 true }
    scheme := { Scheme.default with quantity := 5 } }
/-- A part after reset with the key line active, holding the test job. -/
def idle : State :=
  { State.reset with
    lines := ⟨(PerLine.const false).set .key true, PerLine.const none⟩
    part := { State.reset.part with lineHigh := (PerLine.const false).set .key true }
    heads := (PerPly.const (Channel.cleared .disengaged)).set .ply1 (Channel.cleared .idle)
    acct := { Accounting.factory with job := job } }
/-- The same part in another job state. -/
def inState (j : JobState) (s : State) : State := { s with acct := s.acct.inState j none }
/-- The job committed. -/
def loaded : State := inState .loaded idle
/-- An open bundle. -/
def bundle (sets : Nat) (close : Option CloseReason) : OpenBundle := ⟨1, sets, [none], [none], [], false, false, close⟩
/-- The job started: delays 0 for head 1, 1 for M, 2 for the reader and 3 for the gate. -/
def running : State :=
  { loaded.setUp 1 with
    acct := { loaded.acct with
      header := ⟨.running, none, 0, [⟨.item (num 1), .item (num 1)⟩], []⟩, bundle := some (bundle 0 none) } }
/-- A station's count set. -/
def counted (x : StationId) (n : Nat) (s : State) : State :=
  { s with tracker := s.tracker.set x { s.tracker.get x with count := n } }
/-- A station's state and previous-skew flag set. -/
def station (x : StationId) (st : StationState) (flag : Bool) (s : State) : State :=
  { s with tracker := s.tracker.set x { s.tracker.get x with state := st, prevSkew := flag } }
/-- Set 0, printed, married and matched. -/
def set0 : SetRecord where
  index := 0
  kind := .regular
  numbers := [num 1]
  entry := none
  attempt := 0
  plies := (PerPly.const none).set .ply1 (some .printed)
  marriage := .married
  verification := .matched
  hostCull := false
  state := .opened
  pendingCause := none
/-- A run with one record in the table, ISSUED telling its numbers. -/
def holding (r : SetRecord) (s : State) : State :=
  { s with
    table := ⟨[.record r], r.index + 1⟩
    acct := { s.acct with
      header := { s.acct.header with marks := [⟨.item (num 2), .item (num 1)⟩] }
      counters := { s.acct.counters with issued := ⟨1, false⟩, setsRegular := ⟨1, false⟩ } } }
/-- Head 1's channel replaced. -/
def head1 (f : Channel → Channel) (s : State) : State := { s with heads := s.heads.set .ply1 (f s.heads.p1) }
/-- The reader waiting on these entries. -/
def waitingOn (q : List ReaderEntry) (s : State) : State := { s with reader := { s.reader with queue := q } }
/-- An entry of the remake register. -/
def entry (st : EntryState) : RemakeEntry := ⟨1, [num 9], 0, .misfire, st, none, none, false⟩
/-- n void records, the low flag as given. -/
def filled (n : Nat) (low : Bool) (s : State) : State :=
  { s with acct := { s.acct with
      log := { s.acct.log with records := List.replicate n ⟨num 9, 1, .misfire, none, 0, false, none⟩, low := low } } }
/-- A manifest. -/
def manifest : Manifest := ⟨0, 1, .size, 0, [none], [none], [], false, false⟩
/-- n manifests in the queue. -/
def queued (n : Nat) (s : State) : State := { s with acct := { s.acct with manifests := List.replicate n manifest } }
/-- The policy changed. -/
def policy (f : Policy → Policy) (s : State) : State :=
  { s with acct := { s.acct with job := { s.acct.job with policy := f s.acct.job.policy } } }
/-- The scheme changed. -/
def scheme (f : Scheme → Scheme) (s : State) : State :=
  { s with acct := { s.acct with job := { s.acct.job with scheme := f s.acct.job.scheme } } }
/-- A line timing a change since n ms, its electrical level as given. -/
def timing (l : LineId) (high : Bool) (n : Nat) (s : State) : State :=
  { s with
    part := { s.part with lineHigh := s.part.lineHigh.set l high }
    lines := { s.lines with pending := s.lines.pending.set l (some n) } }

/-! ### WellFormed refuses -/

theorem test_wf_payload : (Instr.ident 0 (List.replicate 241 0)).wellFormed = false
    ∧ (Instr.ident 0 (List.replicate 240 0)).wellFormed = true := by decide
theorem test_wf_unknown_kind : (Instr.unknownKind 0x01 0 []).wellFormed = false
    ∧ (Instr.unknownKind 0x7F 0 []).wellFormed = true := by decide
theorem test_wf_control_frame : (Instr.controlFrame []).wellFormed = false
    ∧ (Instr.controlFrame [0x7F, 0, 2, 1, 1, 0, 0]).wellFormed = false
    ∧ (Instr.controlFrame [startByte, 0, 2, 1, 1, 0]).wellFormed = false
    ∧ (Instr.controlFrame [startByte, 0, 2, 1, 1, 0, 0]).wellFormed = true
    ∧ (Instr.controlFrame [startByte, 0, 1]).wellFormed = true := by decide
theorem test_wf_frame_sent : (Instr.frameSent .reader).wellFormed = false := by decide
theorem test_wf_head_messages : (Instr.done .ply1 4 0).wellFormed = false ∧ (Instr.done .ply1 3 2).wellFormed = false
    ∧ (Instr.done .ply1 3 1).wellFormed = true ∧ (Instr.headfault .ply1 0).wellFormed = false
    ∧ (Instr.headMalformedMessage .ply1 0xC1 [3, 1]).wellFormed = false := by decide
theorem test_wf_reader_messages : (Instr.result []).wellFormed = false ∧ (Instr.result [4, 0xFF, 0xFF, 0xFF, 0xFF]).wellFormed = false
    ∧ (Instr.result [1, 2, 0x31, 0x7F]).wellFormed = false ∧ (Instr.result [1, 2, 0x31, 0x32]).wellFormed = true
    ∧ (Instr.readerfault 0).wellFormed = false
    ∧ (Instr.readerMalformedMessage 0xD2 [5]).wellFormed = false := by decide

/-! ### The manual's tables -/

theorem test_table_has_no_bits : decodeTableWord 32 0 = none := by decide
theorem test_kind_codes : RequestKind.ofByte 0x21 = some .cull ∧ RequestKind.ofByte 0x33 = some .counts
    ∧ RequestKind.ofByte 0x22 = none ∧ replyKind 0x10 = 0x90 := by decide
/-- R182: the CRC of the nine characters 123456789. -/
theorem test_crc : crc [0x31, 0x32, 0x33, 0x34, 0x35, 0x36, 0x37, 0x38, 0x39] = 0x29B1 := by decide

/-- Table 28's scheme under a method. -/
def case4 (m : CheckMethod) : Scheme := { Scheme.default with base := 0, method := m }
theorem test_table28_123456 : ([CheckMethod.none, .mod7, .mod10w, .mod11x, .mod11s].map fun m => (case4 m).checkOf 123456)
    = [none, some 4, some 5, some 0, some 0] := by decide
theorem test_table28_000006 : ([CheckMethod.none, .mod7, .mod10w, .mod11x].map fun m => (case4 m).checkOf 6)
    = [none, some 6, some 2, some 10] ∧ (case4 .mod11s).excluded 6 = true := by decide

/-- Case 1 of Section 2.7: three lanes, series from HZ, MOD11S. -/
def case1 : Scheme :=
  { Scheme.default with seriesOn := true, startSeries := some 191, startSerial := 999997, method := .mod11s, lanes := 3, quantity := 1000 }
theorem test_table24 : case1.issueSet [.item ⟨some 191, 999997, none⟩]
    = some ([⟨some 191, 999997, some 3⟩, ⟨some 191, 999998, some 1⟩, ⟨some 192, 1, some 9⟩], 1,
        [.item (case1.numAt (case1.posOf ⟨some 192, 2, none⟩))]) := by decide
/-- Table 25's formats of plies 1 and 2. -/
def ply1Format : Format := ⟨[], true, .zeros, .hyphen, true⟩
def ply2Format : Format := ⟨[0x43, 0x32], false, .blanks, .space, false⟩
theorem test_table25 :
    let ns : List Machine.Num := [⟨some 191, 999997, some 3⟩, ⟨some 191, 999998, some 1⟩, ⟨some 192, 1, some 9⟩]
    (laneStrings case1 ply1Format ns)[2]? = some [0x4A, 0x41, 0x30, 0x30, 0x30, 0x30, 0x30, 0x31, 0x2D, 0x39]
      ∧ (laneStrings case1 ply2Format ns)[2]? = some [0x43, 0x32, 0x20, 0x20, 0x20, 0x20, 0x20, 0x31]
      ∧ (laneStrings case1 ply2Format ns)[0]? = some [0x43, 0x32, 0x39, 0x39, 0x39, 0x39, 0x39, 0x37] := by decide

/-- Table 26: the lane starts of case 2. -/
theorem test_table26 : ({ Scheme.default with base := 0, startSerial := 100, lanes := 3, mode := .split, quantity := 500 } : Scheme).laneStarts
    = [num 100, num 600, num 1100] := by decide
/-- Table 7: path lengths 30, 18 and 4, reader 6, gate 10. -/
theorem test_table7 :
    let s : State := { State.reset with acct := { State.reset.acct with job := { JobDef.default with
      geometry := { Geometry.default with engaged := ⟨true, true, true, false, false, false⟩, dist := ⟨30, 18, 4, 1, 1, 1⟩, readerV := 6, gateG := 10 } } } }
    ((StationId.all.map fun x => ((s.trackerAtStart 30).get x).delay))
      = [some 0, some 12, some 26, none, none, none, some 30, some 36, some 40] := by decide
/-- The last line of Table 10, at counts of this job's size. -/
theorem test_table10_skewed :
    let t := after .marriageCue (station (.head .ply1) .aligned true (counted (.head .ply1) 104 (counted .marriage 104 (counted .reader 105 (counted .gate 105 running)))))
    t.tracker.heads.p1.state = .skewed ∧ t.control.stops.has (.skew .ply1) = true ∧ t.heads.p1.cause = some .skew := by decide
theorem test_table10_flag :
    let t := after .marriageCue (counted (.head .ply1) 101 (counted .marriage 101 (counted .reader 102 (counted .gate 102 running))))
    t.tracker.heads.p1.state = .aligned ∧ t.tracker.heads.p1.prevSkew = true := by decide

/-! ### For every obligation with hypotheses, a state and operands that meet them -/

theorem all_plies {P : Ply → Prop} (h : ∀ p ∈ Ply.all, P p) : ∀ p, P p :=
  fun p => h p (by cases p <;> decide)
theorem all_stations {P : StationId → Prop} (h : ∀ x ∈ StationId.all, P x) : ∀ x, P x := by
  intro x
  rcases x with p | _ | _ | _
  · cases p <;> exact h _ (by decide)
  all_goals exact h _ (by decide)
theorem all_lines {P : LineId → Prop} (h : ∀ l ∈ LineId.all, P l) : ∀ l, P l := by
  intro l
  rcases l with _ | _ | _ | p
  · exact h _ (by decide)
  · exact h _ (by decide)
  · exact h _ (by decide)
  · cases p <;> exact h _ (by decide)

theorem ring_of {s : State} (h : (s.table.wf && s.table.slots.all fun x => decide (x.index < s.table.frontier)) = true) :
    RingInv s := by
  simp only [Bool.and_eq_true, List.all_eq_true, decide_eq_true_eq] at h
  exact h
theorem carries_of {x : StationId} {i : Int} {s : State}
    (h : (s.live && s.jobState.inRun
      && Ply.all.all (fun p => x != .head p || (s.engaged p && (s.heads.get p).state != .unfitted))
      && decide ((s.tracker.get x).count < Config.countTop)
      && decide (i = ((s.tracker.get x).count : Int) - ((s.tracker.get x).delay.getD 0 : Nat))) = true) :
    CueCarries x i s := by
  simp only [Bool.and_eq_true, decide_eq_true_eq, List.all_eq_true] at h
  obtain ⟨⟨⟨⟨h1, h2⟩, h3⟩, h4⟩, h5⟩ := h
  refine ⟨h1, h2, ?_, h4, h5⟩
  intro p hp
  have := h3 p (by cases p <;> decide)
  simpa [hp] using this

/-- Set 0 in the table of a run whose next gate cue carries it. -/
def atGate : State := counted .gate 3 (holding set0 running)

/-- A part held in reset. -/
def inReset : State := after (.rstnActive 0) running
theorem witness_ClocksCountOneMillisecond : (State.reset.live = true ∧ State.reset.pending = [])
    ∧ (inReset.live = false ∧ inReset.pending = [])
    ∧ (∀ l, idle.expires l = false) ∧ (∀ l, (timing .prun true 18 idle).expires l = false)
    ∧ ((timing .prun true 19 idle).live = true ∧ (timing .prun true 19 idle).pending = []
      ∧ (timing .prun true 19 idle).expires .prun = true ∧ ∀ m, m ≠ .prun → (timing .prun true 19 idle).expires m = false) :=
  ⟨by decide, by decide, all_lines (by decide), all_lines (by decide), by decide, by decide, by decide,
   all_lines (P := fun m => m ≠ .prun → (timing .prun true 19 idle).expires m = false) (by decide)⟩

theorem quiet_idle : idle.Quiet :=
  ⟨all_stations (by decide), all_plies (by decide), by decide, by decide, by decide⟩
theorem quiet_inv_of_run {s : State} (h : s.part.rstn = false) (hr : s.jobState.inRun = true)
    (hh : s.control.holds = HoldSet.empty) : QuietInv s :=
  fun _ => ⟨fun g => by rw [h, hr] at g; simp at g, fun _ => hh⟩
theorem witness_QuietKept : QuietInv idle ∧ LegalInv idle ∧ step idle = .next (transmit (tick (openJournal idle)))
    ∧ QuietInv atGate ∧ LegalInv atGate :=
  ⟨fun _ => ⟨fun _ => quiet_idle, fun _ => by decide⟩,
   ⟨(by intro j h; cases h), (by intro a h; cases h), by decide, fun _ => all_lines (by decide)⟩, by rfl,
   quiet_inv_of_run (by decide) (by decide) (by decide),
   ⟨(by intro j h; cases h), (by intro a h; cases h), by decide, fun _ => all_lines (by decide)⟩⟩
/-- The gate cue waiting at the front of the queue. -/
def gateNext : State := { atGate with pending := [.gateCue] }
theorem witness_RingKept : RingInv gateNext ∧ step gateNext = .next (after .gateCue atGate) := ⟨ring_of (by decide), by rfl⟩
theorem fits_run : atGate.acct.Fits :=
  ⟨by decide, by decide, by decide, (by intro b h; cases h; decide), (by intro m h; cases h), by decide⟩
theorem streamOk_run : atGate.acct.StreamOk [[num 1]] :=
  ⟨by decide, (by intro o h; cases h), fun _ => by decide, (by intro h; revert h; decide), fun _ => by decide,
   (by intro m h n hn; rw [List.mem_singleton.mp (show m ∈ [⟨.item (num 2), .item (num 1)⟩] from h)] at hn; cases hn; decide),
   ⟨0, [.item (num 2)], by decide, .inl ⟨rfl, rfl⟩⟩, (by intro h; exact absurd (.inl rfl) h), by decide⟩
theorem stream_gateNext : StreamInv gateNext :=
  ⟨⟨_, streamOk_run⟩, (by intro a h; cases h),
   fun _ _ => ⟨by decide, (by intro w h; cases h), [set0], by simp,
     (by intro r; rw [show gateNext.table.records = [set0] from by decide]; simp only [List.mem_singleton]
         exact ⟨fun h => ⟨h, h ▸ rfl, h ▸ rfl⟩, fun h => h.1⟩), streamOk_run⟩,
   (by intro _ h; revert h; decide)⟩
theorem witness_CapacitiesKept : CapacityInv gateNext ∧ step gateNext = .next (after .gateCue atGate) ∧ StreamInv gateNext :=
  ⟨⟨fits_run, (by intro a h; cases h), by decide, by decide, by decide, all_plies (by decide)⟩, by rfl, stream_gateNext⟩
theorem witness_StreamsHoldTheSetsInDoubt : StreamInv gateNext ∧ RingInv gateNext ∧ LegalInv gateNext
    ∧ step gateNext = .next (after .gateCue atGate) :=
  ⟨stream_gateNext, ring_of (by decide),
   ⟨(by intro j h; cases h), (by intro a h; cases h), by decide, fun _ => all_lines (by decide)⟩, by rfl⟩
theorem witness_TagsAndSavedStatesKept : TagInv gateNext ∧ LegalInv gateNext ∧ step gateNext = .next (after .gateCue atGate) :=
  ⟨all_plies (by decide), ⟨(by intro j h; cases h), (by intro a h; cases h), by decide, fun _ => all_lines (by decide)⟩, by rfl⟩
/-- Where one ms on an empty queue leads. -/
def ticked (s : State) : State := transmit (tick (openJournal s))
theorem moves_gate : MovesBy (fun _ => True) atGate (after .gateCue atGate) ∧ MovesBy (fun _ => True) atGate (ticked atGate) :=
  ⟨.inl ⟨.gateCue, trivial, by rfl⟩, .inr ⟨by decide, by rfl⟩⟩
theorem witness_DefinitionAndCountersStandInAJob : (atGate.jobState.inRun = true ∧ atGate.acct.Fits
      ∧ MovesBy (fun c => (∀ n, c ≠ .powerFail n) ∧ ∀ n, c ≠ .rstnActive n) atGate (after .gateCue atGate)
      ∧ MovesBy (fun c => (∀ n, c ≠ .powerFail n) ∧ ∀ n, c ≠ .rstnActive n) atGate (ticked atGate))
    ∧ (atGate.acct.counters.toList[0]?).isSome = true
    ∧ ((inState .recovery idle).jobState = .recovery ∧ (inState .resumable idle).jobState = .resumable) :=
  ⟨⟨by decide, fits_run, .inl ⟨.gateCue, ⟨(by intro n h; cases h), (by intro n h; cases h)⟩, by rfl⟩, .inr ⟨by decide, by rfl⟩⟩,
   by decide, by decide⟩
theorem witness_RecordsOnlyGetWorse :
    (let s := counted .marriage 1 atGate
     RingInv s ∧ MovesBy (fun _ => True) s (after .marriageCue s) ∧ s.table.recordAt 0 = some set0
      ∧ ((after .marriageCue s).table.recordAt 0).isSome = true)
    ∧ (RingInv atGate ∧ MovesBy (fun _ => True) atGate (ticked atGate) ∧ atGate.table.recordAt 0 = some set0
      ∧ ((ticked atGate).table.recordAt 0).isSome = true) :=
  ⟨⟨ring_of (by decide), .inl ⟨.marriageCue, trivial, by rfl⟩, by decide, by decide⟩,
   ring_of (by decide), moves_gate.2, by decide, by decide⟩
/-- The ledger of a part whose OPEN records are all REGULAR, from its parts that evaluation decides. -/
theorem ledger_of {s : State} (h : (decide (s.acct.counters.issued.value =
        s.acct.counters.delivered.value + s.acct.counters.voided.value + s.heldNumbers)
      && !s.acct.counters.issued.saturated && decide (s.acct.counters.issued.value ≤ 99999999)
      && decide (s.acct.register = []) && s.jobState.inRun && decide (s.acct.rows = [])
      && s.table.records.all fun r => r.state == .opened && r.kind == .regular) = true) : LedgerInv s := by
  simp only [Bool.and_eq_true, decide_eq_true_eq, List.all_eq_true, beq_iff_eq, Bool.not_eq_true'] at h
  obtain ⟨⟨⟨⟨⟨⟨h1, h2⟩, h3⟩, h4⟩, h5⟩, h6⟩, h7⟩ := h
  refine ⟨h1, h2, h3, by simp [h4], by simp [h4], fun r hr _ => ⟨h5, fun hk => ?_⟩, by simp [h4], fun r hr hv => ?_,
    by simp [h6], by simp [h6]⟩
  · rw [(h7 r hr).2] at hk; cases hk
  · rw [(h7 r hr).1] at hv; cases hv
theorem witness_NumbersAreConserved : (atGate.live = true ∧ LedgerInv atGate ∧ RingInv atGate ∧ QuietInv atGate
      ∧ LegalInv atGate ∧ atGate.jobState ≠ .recovery)
    ∧ (∀ t, t = after .gateCue atGate ∨ t = ticked atGate → t.live = true ∧ t.jobState ≠ .recovery
      ∧ MovesBy (fun _ => True) atGate t ∧ t.acct.counters.issued.saturated = false) :=
  ⟨⟨by decide, ledger_of (by decide), ring_of (by decide), witness_QuietKept.2.2.2.1, witness_QuietKept.2.2.2.2, by decide⟩,
   (by rintro t (rfl | rfl)
       · exact ⟨by decide, by decide, moves_gate.1, by decide⟩
       · exact ⟨by decide, by decide, moves_gate.2, by decide⟩)⟩

/-- A part sending a report, behind which a reply waits, with these requests waiting. -/
def replying (queue : List CtlFrame) (s : State) : State :=
  { s with link := { s.link with sending := some (.report, ⟨0xA0, 0, []⟩), reply := some ⟨0x81, 1, []⟩, queue := queue } }
theorem witness_FrameBytesDoTheRequest : ((⟨0x02, 7, List.replicate 240 0⟩ : CtlFrame).payload.length ≤ 240
      ∧ State.reset.rxControl = .hunting ∧ State.reset.ready = true)
    ∧ (let s := replying (List.replicate 3 ⟨0x02, 7, []⟩) idle
       s.rxControl = .hunting ∧ s.live = true ∧ s.link.outstanding = true ∧ s.link.queue.length < 4)
    ∧ (let s := replying (List.replicate 4 ⟨0x02, 7, []⟩) idle
       s.rxControl = .hunting ∧ s.live = true ∧ 4 ≤ s.link.queue.length ∧ s.link.busy = none) := by decide
theorem witness_PortBytesDoTheMessage : State.reset.rxHead.get .ply6 = .hunting ∧ (List.replicate 240 (0 : Byte)).length ≤ 240
    ∧ State.reset.rxReader = .hunting := by decide
/-- A frame of the longest payload. -/
def longFrame : CtlFrame := ⟨0x02, 7, List.replicate 240 0⟩
theorem witness_BrokenFramesLeaveNoTrace :
    (State.reset.live = true ∧ State.reset.rxControl = .hunting ∧ State.reset.rxReader = .hunting
      ∧ State.reset.rxHead.get .ply1 = .hunting)
    ∧ ([0, 0] : List Byte) ≠ be16 (crc (be16 2 ++ [1, 1])).toNat
    ∧ ([0, 0] : List Byte) ≠ be16 (crc (be16 242 ++ List.replicate 242 0)).toNat
    ∧ ([0, 0] : List Byte) ≠ be16 (crc (be16 1 ++ [0xC1])).toNat
    ∧ ([0, 0] : List Byte) ≠ be16 (crc (be16 241 ++ List.replicate 241 0)).toNat
    ∧ (1 < 2 ∧ 242 < 243 ∧ 0 < 1 ∧ 241 < 242 ∧ 65535 < 65536 ∧ 242 < 65535)
    ∧ longFrame.payload.length ≤ 240 ∧ 246 < longFrame.wire.length ∧ (⟨0xD2, []⟩ : PortFrame).payload.length ≤ 240
    ∧ 0 < (⟨0xD2, []⟩ : PortFrame).wire.length := by decide
theorem witness_BlocksReadBackAsWritten : job.geometry.inRange = true ∧ case1.inRange = true ∧ case1.jobId < 4294967296
    ∧ (∀ o, case1.startSeries = some o → case1.seriesOn = true ∧ o < 576)
    ∧ ([0x41, 0x20, 0x5A] : List Byte).length ≤ 3 ∧ ([0x41, 0x2D, 0x5A] : List Byte).all leadCharOk = true
    ∧ Policy.default.inRange = true ∧ (Policy.default.mask.lane1 || Policy.default.mask.lane2 || Policy.default.mask.lane3) = true
    ∧ ((⟨some 575, 999999, none⟩ : Machine.Num).series.isSome = case1.seriesOn ∧ (∀ o, some 575 = some o → o < 576)
      ∧ case1.base ≤ 999999 ∧ 999999 < 10 ^ case1.width) :=
  ⟨by decide, by decide, by decide, (by intro o h; cases h; decide), by decide, by decide, by decide, by decide, by decide,
   (by intro o h; cases h; decide), by decide, by decide⟩

/-- The control link at rest. -/
def link0 : Link := State.reset.link
/-- A frame that stands on the link. -/
def aFrame : CtlFrame := ⟨0x81, 1, []⟩
/-- An ALERT and a NOTICE. -/
def alert : Report := ⟨.stop, []⟩
def notice : Report := ⟨.line, []⟩
theorem witness_RepliesAndReportsAreOrdered :
    ({ link0 with sending := some (.reply, aFrame) }.sending.isSome = true ∧ link0.sending = none
      ∧ alert.kind.alert = true ∧ notice.kind.alert = false)
    ∧ ({ link0 with busy := some aFrame }.busy = some aFrame)
    ∧ (let l := { link0 with reply := some aFrame, reports := [alert] }
       l.busy = none ∧ l.reply = some aFrame ∧ l.lastWasReply = false)
    ∧ (let l := { link0 with reply := some aFrame, reports := [notice, alert], lastWasReply := true }
       l.busy = none ∧ l.reports ≠ [] ∧ l.lastWasReply = true)
    ∧ (link0.reply = none ∧ link0.reports = [])
    ∧ ({ link0 with reports := List.replicate 31 notice }.reports.length < 32)
    ∧ (let l := { link0 with reports := List.replicate 32 alert }
       32 ≤ l.reports.length ∧ ∀ x ∈ l.reports, x.kind.alert = true)
    ∧ (let l := { link0 with reports := List.replicate 30 alert ++ notice :: [alert] }
       32 ≤ l.reports.length ∧ ∀ x ∈ ([alert] : List Report), x.kind.alert = true) := by decide
/-- A live part whose link holds a reply on the wire and n requests waiting. -/
def busyLink (n : Nat) (b : Option CtlFrame) : State :=
  { idle with link := { link0 with sending := some (.reply, aFrame), queue := List.replicate n ⟨0x02, 3, []⟩, busy := b } }
theorem witness_RequestsWaitOrAreAnsweredBusy :
    ((busyLink 3 none).live = true ∧ (busyLink 3 none).rxControl ≠ .awaitMark ∧ (busyLink 3 none).link.outstanding = true
      ∧ (busyLink 3 none).link.queue.length < 4)
    ∧ (4 ≤ (busyLink 4 none).link.queue.length ∧ (busyLink 4 none).link.busy = none)
    ∧ (4 ≤ (busyLink 4 (some aFrame)).link.queue.length ∧ (busyLink 4 (some aFrame)).link.busy.isSome = true) := by decide

/-- The premises that RefusalsChangeNothing puts on a request before its owner sees it. -/
def admitted (k : RequestKind) (pl : List Byte) (s : State) : Bool :=
  s.ready && formatOk k pl && (!supervisorOnly k || s.key)
/-- Payloads of the right form whose values lie out of range or in it. -/
def linesPl : List Byte := LineSettings.factory.bytes
def badLines : List Byte := List.replicate 21 7
theorem witness_RefusalsChangeNothing :
    (idle.ready = true ∧ RequestKind.ofByte 0x7F = none ∧ formatOk .ident [0] = false ∧ formatOk .reset [] = true
      ∧ supervisorOnly .reset = true ∧ State.reset.ready = true ∧ State.reset.key = false)
    ∧ (admitted .setLines linesPl running = true ∧ running.jobState.inRun = true)
    ∧ (admitted .setGeometry job.geometry.bytes running = true ∧ running.jobState ≠ .idle ∧ running.jobState ≠ .loaded)
    ∧ (admitted .setScheme (job.scheme.bytes 0xFF) running = true ∧ admitted .setPolicy job.policy.bytes running = true
      ∧ admitted .setFormat (Format.default.bytes .ply1) running = true)
    ∧ (admitted .commit [] running = true ∧ admitted .start [] idle = true ∧ idle.jobState ≠ .loaded ∧ idle.jobState ≠ .resumable)
    ∧ (admitted .hold [] idle = true ∧ admitted .cull [0, 0, 0, 0, 0, 0, 1] idle = true ∧ idle.jobState.inRun = false)
    ∧ (admitted .release [] idle = true ∧ idle.jobState ≠ .hold ∧ admitted .abort [] idle = true ∧ idle.jobState = .idle)
    ∧ (admitted .close [] idle = true ∧ admitted .jumpIf (1 :: numField (num 1) ++ numField (num 2)) idle = true
      ∧ admitted .recover [0] idle = true ∧ idle.jobState ≠ .recovery)
    ∧ (admitted .headResume [6] idle = true ∧ (Ply.ofNumber (u8 [6] 0)).isSome = true)
    ∧ (admitted .readerResume [] running = true ∧ running.reader.state.suspended = false
      ∧ admitted .gateResume [] running = true ∧ running.tracker.gate.state ≠ .skewed) := by decide
theorem witness_RefusalsChangeNothing_range :
    (admitted .setLines badLines idle = true ∧ LineSettings.ofPayload badLines = none)
    ∧ (let g := { job.geometry with readerV := 17 }
       admitted .setGeometry g.bytes idle = true ∧ Geometry.ofPayload g.bytes = none)
    ∧ (let c := { job.scheme with lanes := 4 }
       admitted .setScheme (c.bytes 0xFF) idle = true ∧ Scheme.ofPayload (c.bytes 0xFF) = none)
    ∧ (let pl := (Format.default.bytes .ply1).set 0 7
       admitted .setFormat pl idle = true ∧ Format.ofPayload pl = none)
    ∧ (let q := { job.policy with attemptLimit := 4 }
       admitted .setPolicy q.bytes idle = true ∧ Policy.ofPayload q.bytes = none)
    ∧ (admitted .recover [2] (inState .recovery idle) = true ∧ 1 < u8 [2] 0)
    ∧ (admitted .stopClear [64, 0, 0] idle = true ∧ 64 ≤ u8 [64, 0, 0] 0)
    ∧ (admitted .cull ([0] ++ be32 0 ++ be16 257) running = true ∧ 256 < u16 ([0] ++ be32 0 ++ be16 257) 5)
    ∧ (admitted .cull ([0] ++ be32 4294967295 ++ be16 2) running = true
      ∧ Config.countTop < u32 ([0] ++ be32 4294967295 ++ be16 2) 1 + u16 ([0] ++ be32 4294967295 ++ be16 2) 5 - 1)
    ∧ (admitted .cull ([1] ++ numField (num 1) ++ [2]) running = true
      ∧ running.scheme.lanes < u8 ([1] ++ numField (num 1) ++ [2]) 9)
    ∧ (admitted .headResume [7] idle = true ∧ admitted .manifestFree [1] idle = true ∧ idle.acct.manifests.length < u8 [1] 0)
    ∧ (admitted .logFree (be16 1) idle = true ∧ idle.acct.log.records.length < u16 (be16 1) 0) := by decide

/-- A part sending a reply or a report, with a request waiting or none. -/
def sending (src : TxSource) (waiting : List CtlFrame) (resets : Bool) : State :=
  { idle with link := { link0 with sending := some (src, aFrame), queue := waiting, resetAwaiting := resets } }
theorem witness_FramesEndAndBreaksReset :
    ((sending .report [] false).live = true ∧ (sending .report [] false).link.sending = some (.report, aFrame)
      ∧ (sending .reply [] false).link.resetAwaiting = false ∧ (sending .reply [] false).link.queue = [])
    ∧ (let s := sending .reply [⟨RequestKind.hold.code, 3, []⟩] false
       s.link.reply = none ∧ s.link.queue = [⟨RequestKind.hold.code, 3, []⟩] ∧ s.rxControl = .hunting)
    ∧ (let s := sending .busy [⟨0x7F, 3, []⟩] false
       s.live = true ∧ s.link.reply = none ∧ s.link.queue = [⟨0x7F, 3, []⟩] ∧ RequestKind.ofByte 0x7F = none)
    ∧ ((sending .report [] true).link.resetAwaiting && (sending .report [] true).link.outstanding) = false
    ∧ ((sending .reply [] true).link.resetAwaiting = true ∧ (sending .reply [] true).link.outstanding = true)
    ∧ ({ idle with rxControl := .awaitMark }.live = true ∧ idle.rxControl ≠ .awaitMark) := by decide

theorem witness_ResetsSetUpThePart :
    (idle.ready = true ∧ idle.key = true) ∧ running.part.rstn = false
    ∧ (inReset.part.powered = true ∧ inReset.part.rstn = true ∧ inReset.VolatileClear)
    ∧ ((sending .reply [] true).live = true ∧ (sending .reply [] true).link.sending = some (.reply, aFrame)
      ∧ (sending .reply [] true).link.resetAwaiting = true) :=
  ⟨by decide, by decide, ⟨by decide, by decide, by rfl, by rfl, all_plies (by decide), by rfl, all_plies (by decide), by rfl, by rfl,
    by rfl, fun p => ⟨if p = .ply1 then .idle else .disengaged, by cases p <;> decide, by cases p <;> rfl⟩, by rfl, by rfl, by rfl⟩, by decide⟩
/-- A run right after a step that wrote twice. -/
def written : State := { running with journal := [running.acct, loaded.acct, idle.acct] }
theorem witness_PowerLossKeepsAPrefixOfWrites :
    (written.part.powered = true ∧ written.part.rstn = false ∧ 0 < 2 ∧ written.journal[2]? = some idle.acct)
    ∧ inReset.part.rstn = true ∧ inReset.live = false := by decide

theorem witness_IdentAndCountsShowTheirFields : idle.ready = true ∧ running.ready = true := by decide
theorem witness_StatusShowsEveryBlock : running.ready = true ∧ StationId.all[8]? = some .gate := by decide
/-- A pending-void row of set 0, its record gone with the last reset. -/
def row : PendingRow := ⟨some 0, [(num 9, 1)], .late, 0, false⟩
def withRow (s : State) : State := { s with acct := { s.acct with rows := [row] } }
theorem witness_ReadBacksShowWhatIsHeld :
    (atGate.ready = true ∧ atGate.table.recordAt 0 = some set0 ∧ 4294967295 ≤ Config.countTop)
    ∧ ((withRow idle).table.recordAt 0 = none ∧ (withRow idle).table.traceAt 0 = none ∧ (withRow idle).rowAt 0 = some row)
    ∧ (idle.table.recordAt 4294967295 = none ∧ idle.rowAt 4294967295 = none)
    ∧ (1023 < 65536 ∧ 65535 < 65536) := by decide

theorem witness_SetLinesReplacesTheSettings : idle.ready = true ∧ idle.key = true ∧ idle.jobState.inRun = false
    ∧ (∀ p, (idle.heads.get p).state.runs = false) ∧ LegalInv idle :=
  ⟨by decide, by decide, by decide, all_plies (by decide), witness_QuietKept.2.1⟩
/-- Debounce of every line off. -/
def sharp (s : State) : State :=
  { s with acct := { s.acct with lineSettings := { s.acct.lineSettings with lines := PerLine.const ⟨false, .off⟩ } } }
theorem witness_LineChangesAreConditioned :
    (idle.live = true ∧ inReset.live = false)
    ∧ ((∀ l, InputPin.fit .ply1 ≠ .line l) ∧ (∀ l, InputPin.baud1 ≠ .line l) ∧ ∀ l, InputPin.baud0 ≠ .line l)
    ∧ (idle.part.lineHigh.get .prun ≠ true ∧ (idle.setting .prun).debounce ≠ .off)
    ∧ (let s := timing .wbrk true 3 (sharp idle)
       s.part.lineHigh.get .wbrk ≠ false ∧ (false != (s.setting .wbrk).activeLow) = s.lines.conditioned.get .wbrk)
    ∧ (let s := sharp idle
       s.part.lineHigh.get .prun ≠ true ∧ (true != (s.setting .prun).activeLow) ≠ s.lines.conditioned.get .prun
        ∧ (s.setting .prun).debounce = .off ∧ s.lines.pending.get .prun = none)
    ∧ (let s := timing .wbrk true 20 idle
       s.lines.pending.get .wbrk = some 20 ∧ ∀ p ∈ Ply.all, LineId.wbrk ≠ .spl p)
    ∧ (let s := timing (.spl .ply1) true 20 idle
       s.lines.pending.get (.spl .ply1) = some 20 ∧ (s.heads.get .ply1).state.runs = false) :=
  ⟨by decide, ⟨(by intro l h; cases h), (by intro l h; cases h), (by intro l h; cases h)⟩, by decide, by decide, by decide,
   by decide, by decide⟩
/-- Set 0 delivered in bundle 1 and set 1 in the table. -/
def windowed : State :=
  timing (.spl .ply1) true 20 (counted (.head .ply1) 2
    { holding { set0 with index := 1, numbers := [num 2] } running with
      table := ⟨[.trace ⟨0, .delivered, [num 1], some 1⟩, .record { set0 with index := 1, numbers := [num 2] }], 2⟩ })
theorem witness_SpliceWindowMarksItsSets :
    (let s := timing (.spl .ply1) true 20 (counted (.head .ply1) 1 (holding set0 running))
     s.live = true ∧ s.lines.pending.get (.spl .ply1) = some 20 ∧ s.asserted (.spl .ply1) = true
      ∧ (s.heads.get .ply1).state.runs = true ∧ RingInv s ∧ (s.tracker.heads.get .ply1).delay = some 0
      ∧ (∀ u ∈ s.table.traces, u.disposition = .delivered → False))
    ∧ (let s : State := { windowed with acct := { windowed.acct with job := { job with geometry := { job.geometry with beforeB := 1 } } } }
       s.live = true ∧ s.lines.pending.get (.spl .ply1) = some 20 ∧ s.asserted (.spl .ply1) = true
      ∧ (s.heads.get .ply1).state.runs = true ∧ RingInv s ∧ (s.tracker.heads.get .ply1).delay = some 0
      ∧ s.table.traces = [⟨0, .delivered, [num 1], some 1⟩]
      ∧ (s.tracker.heads.get .ply1).count ≤ 0 + 1 + 0 + s.acct.job.geometry.beforeB
      ∧ (after (.debounceExpired (.spl .ply1)) s).acct.counters.suspect.value = 1) :=
  ⟨⟨by decide, by decide, by decide, by decide, ring_of (by decide), by decide, by decide⟩,
   by decide, by decide, by decide, by decide, ring_of (by decide), by decide, by decide, by decide, by decide⟩

theorem witness_NumbersStepAndIssue : case1.inRange = true ∧ case1.lastPos ≤ case1.lastPos
    ∧ (case1.base ≤ 999999 ∧ 999999 < 10 ^ case1.width ∧ (⟨some 575, 999999, none⟩ : Machine.Num).series.isSome = case1.seriesOn)
    ∧ case1.excluded 999998 = false
    ∧ (case1.posOf ⟨some 191, 999999, none⟩ ≤ case1.lastPos
      ∧ case1.excluded (case1.numAt (case1.posOf ⟨some 191, 999999, none⟩)).serial = true
      ∧ case1.markAfter (case1.numAt (case1.posOf ⟨some 191, 999999, none⟩)) = .item ⟨some 192, 1, some 9⟩)
    ∧ (case1.excluded (case1.numAt case1.lastPos).serial = true ∧ case1.markAfter (case1.numAt case1.lastPos) = .atEnd) := by
  decide
theorem witness_DefinitionRequestsReplaceTheirBlock : (idle.ready = true ∧ idle.key = true ∧ idle.jobState = .idle
      ∧ loaded.ready = true ∧ loaded.key = true ∧ loaded.jobState = .loaded)
    ∧ (formatOk .setGeometry job.geometry.bytes = true ∧ Geometry.ofPayload job.geometry.bytes = some job.geometry)
    ∧ (formatOk .setScheme (job.scheme.bytes 0xFF) = true ∧ Scheme.ofPayload (job.scheme.bytes 0xFF) = some job.scheme)
    ∧ (formatOk .setFormat (ply2Format.bytes .ply6) = true ∧ Format.ofPayload (ply2Format.bytes .ply6) = some (.ply6, ply2Format))
    ∧ (formatOk .setPolicy job.policy.bytes = true ∧ Policy.ofPayload job.policy.bytes = some job.policy) := by decide
/-- What COMMIT answers to the test job with a part of its definition changed. -/
def committed (f : JobDef → JobDef) : List Byte := sent (.commit 5 []) { idle with acct := { idle.acct with job := f job } }
/-- Each check of Table 66 fails for some definition that passes those before it, and all pass for the test job. -/
theorem witness_CommitRunsTheConflictChecks : idle.ready = true ∧ idle.key = true ∧ idle.jobState = .idle
    ∧ committed (fun j => { j with geometry := { j.geometry with engaged := PerPly.const false } }) = [0x06, 1]
    ∧ committed (fun j => { j with geometry := { j.geometry with gateG := 1 } }) = [0x06, 2]
    ∧ committed (fun j => { j with scheme := { j.scheme with startSerial := 0 } }) = [0x06, 3]
    ∧ committed (fun j => { j with scheme := { j.scheme with method := .mod11s, stepK := 2 } }) = [0x06, 4]
    ∧ committed (fun j => { j with policy := { j.policy with mask := ⟨true, true, false⟩ } }) = [0x06, 5]
    ∧ committed (fun j => { j with scheme := { j.scheme with startSerial := 999999, quantity := 2 } }) = [0x06, 6]
    ∧ committed id = [0x00, 0] := by decide

theorem witness_CuesCountAtTheirStation : (idle.live = true ∧ idle.jobState.inRun = false)
    ∧ (running.live = true ∧ running.jobState.inRun = true ∧ running.engaged .ply2 = false)
    ∧ ((counted .gate 4294967295 running).tracker.gate.count = 4294967295
      ∧ running.engaged .ply1 = true ∧ (running.heads.get .ply1).state ≠ .unfitted) := by decide
theorem witness_MarriageCueChecksTheStations : (let s := counted .marriage 4294967295 running
      s.live = true ∧ s.jobState.inRun = true
        ∧ (s.tracker.get (.head .ply2)).state ≠ .aligned ∧ (s.tracker.get .gate).state = .aligned)
    ∧ (running.loses .gate = false ∧ (counted .gate 2 (station .gate .aligned true running)).loses .gate = true
      ∧ (counted .gate 3 running).loses .gate = true) := by decide
theorem witness_MarriageCueMarksTheSet : CueCarries .marriage 0 (counted .marriage 1 (holding set0 running))
    ∧ CueCarries .marriage (-1) running := ⟨carries_of (by decide), carries_of (by decide)⟩

/-- Head 1 two pitches downstream of the first, so that its first cues carry indices below 0. -/
def late1 (st : ChannelState) (s : State) : State :=
  head1 (fun c => { c with state := st }) { s with tracker := s.tracker.set (.head .ply1) ⟨.aligned, false, 0, some 2⟩ }
/-- Head 1 with these loads outstanding. -/
def loads (q : List Load) (s : State) : State := head1 (fun c => { c with queue := q, tagCounter := 3, afterCount := 1 }) s
theorem witness_HeadCueLoadsTheSet :
    (CueCarries (.head .ply1) (-2) (late1 .leadIn running) ∧ ((late1 .leadIn running).heads.get .ply1).state = .leadIn)
    ∧ (CueCarries (.head .ply1) (-2) (late1 .numbering running))
    ∧ (let s := { running with table := ⟨[], 1⟩ }
       CueCarries (.head .ply1) 0 s ∧ s.table.openAt 0 = none ∧ 0 < s.table.frontier)
    ∧ (let s := loads [⟨3, 7, 1⟩] (holding set0 running)
       CueCarries (.head .ply1) 0 s ∧ (∀ l ∈ (s.heads.get .ply1).aged, l.age < s.acct.job.geometry.timeoutT)
        ∧ s.table.openAt 0 = some set0 ∧ (s.heads.get .ply1).queue.length < 2 ∧ (s.heads.get .ply1).tagCounter < 4)
    ∧ (let s := loads [⟨1, 7, 1⟩, ⟨2, 8, 0⟩] (holding set0 running)
       CueCarries (.head .ply1) 0 s ∧ (∀ l ∈ (s.heads.get .ply1).aged, l.age < s.acct.job.geometry.timeoutT)
        ∧ s.table.openAt 0 = some set0 ∧ 2 ≤ (s.heads.get .ply1).queue.length) :=
  ⟨⟨carries_of (by decide), by decide⟩, carries_of (by decide), ⟨carries_of (by decide), by decide, by decide⟩,
   ⟨carries_of (by decide), by decide, by decide, by decide, by decide⟩, carries_of (by decide), by decide, by decide, by decide⟩
theorem witness_LateLoadsFaultTheChannel :
    (let s := loads [⟨3, 0, 3⟩] running
     s.live = true ∧ (s.heads.get .ply1).queue.filter (fun l => decide (s.acct.job.geometry.timeoutT ≤ l.age)) ≠ []
      ∧ (s.heads.get .ply1).state = .numbering)
    ∧ (running.heads.get .ply1).queue.filter (fun l => decide (running.acct.job.geometry.timeoutT ≤ l.age)) = []
    ∧ (head1 (fun c => { c with state := .faulted }) (loads [⟨3, 0, 3⟩] running)).heads.p1.state = .faulted
    ∧ (let s := loads [⟨3, 7, 2⟩] (holding set0 running)
       CueCarries (.head .ply1) 0 s ∧ RingInv s ∧ 0 < s.table.frontier ∧ (s.heads.get .ply1).state = .numbering
        ∧ (s.heads.get .ply1).aged.filter (fun l => decide (s.acct.job.geometry.timeoutT ≤ l.age)) ≠ [])
    ∧ (let s := head1 (fun c => { c with state := .faulted }) (holding set0 running)
       CueCarries (.head .ply1) 0 s ∧ RingInv s ∧ (s.heads.get .ply1).state = .faulted) :=
  ⟨by decide, by decide, by decide, ⟨carries_of (by decide), ring_of (by decide), by decide, by decide, by decide⟩,
   carries_of (by decide), ring_of (by decide), by decide⟩
/-- A run with these entries in the register. -/
def withEntries (es : List RemakeEntry) (s : State) : State := { s with acct := { s.acct with register := es } }
theorem witness_HeadCueAllocatesTheSet :
    (CueCarries (.head .ply1) 0 running ∧ RingInv running ∧ (running.tracker.heads.get .ply1).state = .aligned
      ∧ running.table.frontier ≤ 0 ∧ (∀ r ∈ running.table.records, 0 < r.index + 256)
      ∧ (running.heads.get .ply1).state = .numbering ∧ (running.heads.get .ply1).queue = []
      ∧ (running.heads.get .ply1).afterCount = 0 ∧ (running.heads.get .ply1).tagCounter < 4)
    ∧ ((withEntries [entry .doubt, { entry .waiting with number := 2 }] running).jobState = .running
      ∧ (entry .waiting).state = .waiting ∧ (∀ x ∈ [entry .doubt], x.state ≠ .waiting ∧ x.number ≠ 2))
    ∧ ((∀ x ∈ running.acct.register, x.state ≠ .waiting)
      ∧ running.acct.counters.setsRegular.value < running.scheme.quantity
      ∧ running.scheme.issueSet (running.acct.header.marks.map StreamMarks.alloc) = some ([num 1], 0, [.item (num 2)]))
    ∧ running.scheme.issueSet [.atEnd] = none
    ∧ ((inState .draining running).jobState = .draining ∧ (inState .hold running).jobState = .hold
      ∧ CueCarries (.head .ply1) 0 (inState .draining running) ∧ CueCarries (.head .ply1) 0 (inState .hold running))
    ∧ (let s := counted (.head .ply1) 256 (holding set0 running)
       CueCarries (.head .ply1) 256 s ∧ s.table.frontier ≤ 256 ∧ s.table.openAt 256 = none ∧ set0 ∈ s.table.records
        ∧ (∀ r ∈ s.table.records, set0.index ≤ r.index) ∧ set0.index + 256 ≤ 256
        ∧ (station (.head .ply1) .skewed false s).tracker.heads.p1.state = .skewed
        ∧ CueCarries (.head .ply1) 256 (station (.head .ply1) .skewed false s)) :=
  ⟨⟨carries_of (by decide), ring_of (by decide), by decide, by decide, by decide, by decide, by decide, by decide, by decide⟩,
   by decide, by decide, by decide, ⟨by decide, by decide, carries_of (by decide), carries_of (by decide)⟩,
   carries_of (by decide), by decide, by decide, by decide, by decide, by decide, by decide, carries_of (by decide)⟩
theorem witness_HeadMessagesEndLoads :
    (idle.live = true ∧ (idle.heads.get .ply1).state = .idle ∧ (3 : Byte).toNat ≤ 3 ∧ (1 : Byte).toNat ≤ 1)
    ∧ ((∀ l ∈ (running.heads.get .ply1).queue, l.tag ≠ 0) ∧ (running.heads.get .ply1).state = .numbering)
    ∧ (let s := loads [⟨2, 0, 1⟩, ⟨3, 1, 0⟩] running
       (s.heads.get .ply1).queue = [⟨2, 0, 1⟩] ++ ⟨3, 1, 0⟩ :: [] ∧ (∀ x ∈ ([⟨2, 0, 1⟩] ++ [] : List Load), x.tag ≠ 3)
        ∧ (s.heads.get .ply1).state.runs = true)
    ∧ ((0xFF : Byte) ≠ 0 ∧ (idle.heads.get .ply1).state.runs = false)
    ∧ (HeadMessage.ofFrame 0xC2 [0] = none ∧ (idle.heads.get .ply1).state ≠ .leadIn
      ∧ (idle.heads.get .ply1).state ≠ .numbering) := by decide

/-- A waiting entry for set 0. -/
def forSet0 : ReaderEntry := ⟨0, .set, none⟩
theorem witness_ReaderCueQueuesAnEntry :
    (CueCarries .reader (-2) running ∧ running.reader.state = .reading ∧ running.reader.queue.length < 4)
    ∧ (let s := counted .reader 2 (waitingOn (List.replicate 3 forSet0) (holding set0 running))
       CueCarries .reader 0 s ∧ s.reader.queue.length < 4)
    ∧ (let s := counted .reader 2 (waitingOn (List.replicate 4 forSet0) running)
       CueCarries .reader 0 s ∧ 4 ≤ s.reader.queue.length)
    ∧ (let s := { running with reader := ⟨.lagging, [], 0, 0⟩ }
       CueCarries .reader (-2) s ∧ s.reader.state.suspended = true)
    ∧ (let s := counted .reader 4294967295 running
       s.live = true ∧ s.jobState.inRun = true ∧ 4294967295 ≤ s.tracker.reader.count ∧ s.reader.state = .reading) :=
  ⟨⟨carries_of (by decide), by decide, by decide⟩, ⟨carries_of (by decide), by decide⟩,
   ⟨carries_of (by decide), by decide⟩, ⟨carries_of (by decide), by decide⟩, by decide⟩
/-- The reader waiting on set 0 with a retire note. -/
def noted (d : Disposition) : State := waitingOn [⟨0, .set, some ⟨d, [num 1], some 1⟩⟩] running
theorem witness_ReaderMessagesAreTaken :
    (running.live = true ∧ running.resultOk [some (List.replicate 16 0x20)] ∧ idle.reader.state ≠ .reading
      ∧ running.reader.state = .reading ∧ running.reader.queue = [])
    ∧ ((waitingOn [forSet0] running).reader.queue = forSet0 :: [] ∧ forSet0.note = none
      ∧ (∀ i : Nat, forSet0.index = i → running.table.openAt i = none))
    ∧ (let s := waitingOn [forSet0] (holding set0 running)
       s.reader.queue = forSet0 :: [] ∧ forSet0.kind = .set ∧ forSet0.index = (0 : Nat) ∧ s.policy.verify = true
        ∧ s.table.openAt 0 = some set0)
    ∧ ((noted .delivered).reader.queue = ⟨0, .set, some ⟨.delivered, [num 1], some 1⟩⟩ :: [])
    ∧ ((5 : Byte) ≠ 0 ∧ ReaderMessage.ofFrame running.scheme.lanes 0xD1 [2, 0xFF, 0xFF] = none) :=
  ⟨⟨by decide, ⟨by decide, by decide, by intro str h; simp at h; subst h; decide⟩, by decide, by decide, by decide⟩,
   ⟨by decide, by decide, by intro i h; rw [show i = 0 from by simp [forSet0] at h; omega]; decide⟩, by decide, by decide, by decide⟩
/-- Ply 1's string for number 1 is 000001; for number 2, 000002. -/
theorem witness_ReadsAreCompared :
    let want := [0x30, 0x30, 0x30, 0x30, 0x30, 0x31]
    let got := [0x30, 0x30, 0x30, 0x30, 0x30, 0x32]
    laneString running.scheme (running.acct.job.formats.get .ply1) [num 1] 1 = want
      ∧ (∀ k, k < 5 → (got : List Byte)[k]? = (want : List Byte)[k]?) ∧ (got : List Byte)[5]? ≠ (want : List Byte)[5]?
      ∧ running.laneOutcome 0 [num 1] 1 (some got) = .mismatch 1 6 .digits
      ∧ (let s := holding { set0 with index := 1, numbers := [num 2] } running
         s.laneOutcome 0 [num 1] 1 (some got) = .mismatch 1 6 .slipAhead
          ∧ s.laneOutcome 2 [num 1] 1 (some got) = .mismatch 1 6 .slipBehind)
      ∧ (let s := waitingOn [forSet0] (holding { set0 with verification := .notYet } running)
         s.live = true ∧ s.reader.state = .reading ∧ s.policy.verify = true ∧ s.reader.queue = forSet0 :: []
          ∧ forSet0.kind = .set ∧ forSet0.note = none ∧ forSet0.index = (0 : Nat)
          ∧ s.table.openAt 0 = some { set0 with verification := .notYet }) := by decide
theorem witness_ReadsAreCompared_result : (running.resultOk [none]) ∧ running.resultOk [some [0x30, 0x7E]] :=
  ⟨⟨by decide, by decide, by intro str h; simp at h⟩,
   by decide, by decide, by intro str h; simp at h; subst h; decide⟩

theorem witness_GateDecidesByTheRanking :
    (set0.hostCull = false ∧ (∀ p ∈ Ply.all, ∀ st, set0.plies.get p = some st → st = .printed) ∧ set0.marriage = .married)
    ∧ cullCause false .cull set0 = none ∧ cullCause false .deliver { set0 with verification := .notYet } = none
    ∧ (let r := { set0 with plies := ⟨some .printed, some .late, some .misfire, none, none, none⟩ }
       r.plies.get .ply2 = some .late
        ∧ (∀ q ∈ Ply.all, q.number < Ply.ply2.number → r.plies.get q = none ∨ r.plies.get q = some .printed)
        ∧ cullCause false .cull r = some .late) := by
  refine ⟨⟨by decide, ?_, by decide⟩, by decide, by decide, by decide, by decide, by decide⟩
  intro p hp st h
  revert h
  cases p <;> simp [set0, PerPly.get, PerPly.set, PerPly.const, eq_comm]
/-- Set 0 as a remake of entry 1, on its second attempt. -/
def remake0 : SetRecord := { set0 with kind := .remake, numbers := [num 9], entry := some 1, attempt := 2 }
/-- The remake of entry 1 at the gate. -/
def remakeAtGate : State := withEntries [{ entry .inFlight with setIndex := some 0 }] (counted .gate 3 (holding remake0 running))
/-- The same with next entry number 2. -/
def nextIs2 (s : State) : State := { s with acct := { s.acct with nextEntry := 2 } }
theorem witness_GateCueRetiresUpToItsIndex :
    (running.live = true ∧ running.jobState.inRun = true ∧ CueCarries .gate (-3) running
      ∧ (∀ r ∈ running.table.records, r.state = .opened → (-3 : Int) ≤ r.index)
      ∧ (∀ n : Nat, (-3 : Int) = n → running.table.openAt n = none))
    ∧ 4294967295 ≤ (counted .gate 4294967295 running).tracker.gate.count
    ∧ (CueCarries .gate 0 atGate ∧ RingInv atGate
      ∧ (let s := { atGate with acct := { atGate.acct with counters := { atGate.acct.counters with
          setsCulled := ⟨99999998, false⟩, setsDelivered := ⟨99999998, false⟩ } } }
        let due := (s.table.records.filter fun r => r.state == .opened && decide (r.index ≤ 0)).length
        s.acct.counters.setsCulled.value + due ≤ 99999999 ∧ s.acct.counters.setsDelivered.value + due ≤ 99999999
          ∧ s.table.openAt 0 = some set0 ∧ (after .gateCue s).jobState.inRun = true))
    ∧ (let s := counted .gate 4 atGate
       CueCarries .gate 1 s ∧ RingInv s ∧ LedgerInv s ∧ set0 ∈ s.table.records ∧ set0.state = .opened ∧ set0.index < 1
        ∧ set0.kind = .regular
        ∧ s.acct.counters.setsCulled.value + 1 ≤ 99999999 ∧ s.acct.counters.setsDelivered.value + 1 ≤ 99999999) :=
  ⟨⟨by decide, by decide, carries_of (by decide), by decide, by intro n h; omega⟩, by decide,
   ⟨carries_of (by decide), ring_of (by decide), by decide⟩,
   carries_of (by decide), ring_of (by decide), ledger_of (by decide), by decide, by decide, by decide, by decide, by decide,
   by decide⟩
/-- The remake of entry 1 passed over by a gate cue of index 1. -/
theorem witness_GateCueRetiresUpToItsIndex_remake : LedgerInv (nextIs2 (counted .gate 4 remakeAtGate)) ∧ remake0.kind = .remake
    ∧ CueCarries .gate 1 (nextIs2 (counted .gate 4 remakeAtGate)) ∧ remake0 ∈ remakeAtGate.table.records ∧ remake0.index < 1
    ∧ RingInv (nextIs2 (counted .gate 4 remakeAtGate)) := by
  refine ⟨⟨by decide, by decide, by decide, by decide, by decide, ?_, ?_, ?_, by decide, by intro _ w h; cases h⟩,
    by decide, carries_of (by decide), by decide, by decide, ring_of (by decide)⟩
  · intro r hr _
    rw [List.mem_singleton.mp (show r ∈ [remake0] from hr)]
    exact ⟨by decide, fun _ => ⟨_, List.mem_singleton.mpr rfl, by decide⟩⟩
  · intro e he _
    rw [List.mem_singleton.mp (show e ∈ [{ entry .inFlight with setIndex := some 0 }] from he)]
    exact ⟨remake0, List.mem_singleton.mpr rfl, by decide⟩
  · intro r hr hv
    rw [List.mem_singleton.mp (show r ∈ [remake0] from hr)] at hv; cases hv
/-- The gate's open bundle in the tests. -/
def open1 : OpenBundle := bundle 0 none
theorem gateAt_of {r : SetRecord} {s : State} (h : CueCarries .gate 0 s)
    (g : ((s.jobState == .running || s.jobState == .hold) && s.table.records.all (fun x => decide (0 ≤ x.index))
      && s.table.openAt 0 == some r && s.acct.bundle == some open1 && decide (0 + 1 ≠ s.policy.bundleSize)
      && decide (s.acct.log.records.length ≤ 1024)) = true) : GateAt 0 r open1 s := by
  simp only [Bool.and_eq_true, Bool.or_eq_true, beq_iff_eq, decide_eq_true_eq] at g
  obtain ⟨⟨⟨⟨⟨g1, -⟩, g3⟩, g4⟩, g5⟩, g6⟩ := g
  exact ⟨h, g1, fun x _ _ => Nat.zero_le _, g3, g4, rfl, g5, by decide, g6⟩
theorem witness_GateDeliversTheSet :
    (GateAt 0 set0 open1 atGate ∧ cullCause (atGate.tracker.gate.state == .skewed) atGate.policy.unverified set0 = none
      ∧ set0.kind = .regular ∧ atGate.acct.header.fits atGate.scheme set0.numbers)
    ∧ (GateAt 0 remake0 open1 remakeAtGate
      ∧ cullCause (remakeAtGate.tracker.gate.state == .skewed) remakeAtGate.policy.unverified remake0 = none
      ∧ remake0.kind = .remake) :=
  ⟨⟨gateAt_of (carries_of (by decide)) (by decide), by decide, by decide, by decide, by decide⟩,
   gateAt_of (carries_of (by decide)) (by decide), by decide, by decide⟩
/-- The set at the gate with a host cull. -/
def marked (r : SetRecord) (s : State) : State := { s with table := ⟨[.record { r with hostCull := true }], 1⟩ }
theorem witness_GateCullsTheSet :
    (let s := policy (fun q => { q with cullPolicy := .remake }) (marked set0 atGate)
     GateAt 0 { set0 with hostCull := true } open1 s ∧ s.acct.register.length < 64 ∧ s.policy.cullPolicy = .remake
      ∧ cullCause (s.tracker.gate.state == .skewed) s.policy.unverified { set0 with hostCull := true } = some .hostCull
      ∧ s.acct.header.fits s.scheme set0.numbers)
    ∧ (let s := filled 895 false (marked set0 atGate)
       GateAt 0 { set0 with hostCull := true } open1 s ∧ s.policy.cullPolicy = .void
        ∧ s.acct.log.records.length + set0.numbers.length ≤ 1024 ∧ LogCalm set0.numbers.length s)
    ∧ (let s := filled 1024 true (marked set0 atGate)
       GateAt 0 { set0 with hostCull := true } open1 s ∧ 1024 < s.acct.log.records.length + set0.numbers.length)
    ∧ (let s := policy (fun q => { q with attemptLimit := 3 }) (marked remake0 remakeAtGate)
       GateAt 0 { remake0 with hostCull := true } open1 s ∧ remake0.attempt < s.policy.attemptLimit
        ∧ remake0.entry = some 1 ∧ s.acct.register = [] ++ { entry .inFlight with setIndex := some 0 } :: [])
    ∧ (let s := filled 1023 true (policy (fun q => { q with attemptLimit := 2 }) (marked remake0 remakeAtGate))
       GateAt 0 { remake0 with hostCull := true } open1 s ∧ s.policy.attemptLimit ≤ remake0.attempt
        ∧ s.acct.log.records.length + 1 ≤ 1024 ∧ LogCalm 1 s)
    ∧ (let s := filled 1024 true (policy (fun q => { q with attemptLimit := 2 }) (marked remake0 remakeAtGate))
       GateAt 0 { remake0 with hostCull := true } open1 s ∧ 1024 < s.acct.log.records.length + 1) :=
  ⟨⟨gateAt_of (carries_of (by decide)) (by decide), by decide, by decide, by decide, by decide, by decide⟩,
   ⟨gateAt_of (carries_of (by decide)) (by decide), by decide, by decide, .inr (by decide)⟩,
   ⟨gateAt_of (carries_of (by decide)) (by decide), by decide⟩,
   ⟨gateAt_of (carries_of (by decide)) (by decide), by decide, by decide, by decide⟩,
   ⟨gateAt_of (carries_of (by decide)) (by decide), by decide, by decide, .inl (by decide)⟩,
   gateAt_of (carries_of (by decide)) (by decide), by decide⟩
theorem atGate_of {i : Nat} {r : SetRecord} {b : OpenBundle} {s : State} (h : CueCarries .gate i s)
    (g : (s.table.records.all (fun x => decide (i ≤ x.index)) && s.table.openAt i == some r && s.acct.bundle == some b
      && decide (s.acct.log.records.length ≤ 1024)) = true) : AtGate i r b s := by
  simp only [Bool.and_eq_true, List.all_eq_true, beq_iff_eq, decide_eq_true_eq] at g
  exact ⟨h, fun x hx _ => g.1.1.1 x hx, g.1.1.2, g.1.2, g.2⟩
/-- A run draining, whose last set stands at the gate in a bundle of one set, before a jump range from 2 to 4. -/
def lastSet : State :=
  let s := inState .draining (policy (fun q => { q with bundleSize := 1 }) atGate)
  { s with acct := { s.acct with header := { s.acct.header with jumpList := [⟨num 2, num 4⟩] } } }
/-- A header whose retired mark comes to rest on a jump range: what `RetiresPast` asks of its second clause. -/
theorem witness_RetiresPast : let h := lastSet.acct.header; let c := lastSet.scheme
    h.marks.length = (if c.mode = .split then set0.numbers else set0.numbers.getLast?.toList).length
      ∧ (h.passed c set0.numbers).marks = ⟨.item (num 2), .item (num 2)⟩ :: [] ∧ h.jumpList = [] ++ ⟨num 2, num 4⟩ :: []
      ∧ (num 2).same (num 2) = true ∧ c.markAfter (num 4) = .item (num 5) := by decide
theorem witness_GateDeliversTheSet_closes :
    (AtGate 0 set0 open1 lastSet ∧ cullCause (lastSet.tracker.gate.state == .skewed) lastSet.policy.unverified set0 = none
      ∧ set0.kind = .regular)
    ∧ (let s := inState .draining remakeAtGate
       AtGate 0 remake0 open1 s ∧ cullCause (s.tracker.gate.state == .skewed) s.policy.unverified remake0 = none
        ∧ remake0.kind = .remake) :=
  ⟨⟨atGate_of (carries_of (by decide)) (by decide), by decide, by decide⟩,
   atGate_of (carries_of (by decide)) (by decide), by decide, by decide⟩
/-- The set whose retirement ends the job: the bundle closes for its size, and the next one FINAL. -/
theorem test_last_set : let t := after .gateCue { lastSet with acct := { lastSet.acct with header := { lastSet.acct.header with jumpList := [] } } }
    t.jobState = .complete ∧ t.acct.manifests.map Manifest.reason = [.size, .final] := by decide
theorem test_jump_passed : (after .gateCue lastSet).acct.header.marks.map StreamMarks.retired = [.item (num 5)]
    ∧ (after .gateCue lastSet).acct.header.jumpList = [] := by decide
theorem witness_GateCullsTheSet_closes :
    (let s := policy (fun q => { q with cullPolicy := .remake }) (marked set0 (inState .draining atGate))
     AtGate 0 { set0 with hostCull := true } open1 s ∧ s.policy.cullPolicy = .remake ∧ s.acct.register.length < 64
      ∧ cullCause (s.tracker.gate.state == .skewed) s.policy.unverified { set0 with hostCull := true } = some .hostCull)
    ∧ (let s := filled 896 false (marked set0 atGate)
       AtGate 0 { set0 with hostCull := true } open1 s ∧ s.policy.cullPolicy = .void
        ∧ s.acct.log.records.length + set0.numbers.length ≤ 1024)
    ∧ (let s := filled 1024 true (marked set0 (inState .draining atGate))
       AtGate 0 { set0 with hostCull := true } open1 s ∧ 1024 < s.acct.log.records.length + set0.numbers.length)
    ∧ (let s := policy (fun q => { q with attemptLimit := 3 }) (marked remake0 (inState .draining remakeAtGate))
       AtGate 0 { remake0 with hostCull := true } open1 s ∧ remake0.attempt < s.policy.attemptLimit
        ∧ remake0.entry = some 1 ∧ s.acct.register = [] ++ { entry .inFlight with setIndex := some 0 } :: [])
    ∧ (let s := filled 896 false (policy (fun q => { q with attemptLimit := 2 }) (marked remake0 remakeAtGate))
       AtGate 0 { remake0 with hostCull := true } open1 s ∧ s.policy.attemptLimit ≤ remake0.attempt
        ∧ s.acct.log.records.length + 1 ≤ 1024)
    ∧ (let s := filled 1024 true (policy (fun q => { q with attemptLimit := 2 }) (marked remake0 remakeAtGate))
       AtGate 0 { remake0 with hostCull := true } open1 s ∧ 1024 < s.acct.log.records.length + 1) :=
  ⟨⟨atGate_of (carries_of (by decide)) (by decide), by decide, by decide, by decide⟩,
   ⟨atGate_of (carries_of (by decide)) (by decide), by decide, by decide⟩,
   ⟨atGate_of (carries_of (by decide)) (by decide), by decide⟩,
   ⟨atGate_of (carries_of (by decide)) (by decide), by decide, by decide, by decide⟩,
   ⟨atGate_of (carries_of (by decide)) (by decide), by decide, by decide⟩,
   atGate_of (carries_of (by decide)) (by decide), by decide⟩
/-- PRUN active. -/
def pressing (s : State) : State := { s with lines := { s.lines with conditioned := s.lines.conditioned.set .prun true } }
theorem witness_CausesAreRaisedOnce :
    (idle.prun = false ∧ (pressing idle).prun = true ∧ (pressing idle).policy.readFailLimit ≠ 0
      ∧ (pressing idle).policy.spoilLimit ≠ 0 ∧ (pressing idle).reader.readFail + 1 ≠ (pressing idle).policy.readFailLimit)
    ∧ ((policy (fun q => { q with readFailLimit := 1, spoilLimit := 1 }) (pressing idle)).reader.readFail + 1 = 1
      ∧ (policy (fun q => { q with readFailLimit := 1, spoilLimit := 1 }) (pressing idle)).policy.spoilLimit = 1
      ∧ (policy (fun q => { q with readFailLimit := 0 }) idle).policy.readFailLimit = 0)
    ∧ (idle.control.stops.has .powerLoss = false
      ∧ ({ idle with control := ⟨HoldSet.empty, { StopSet.empty with powerLoss := true }⟩ }).control.stops.has .powerLoss = true)
    ∧ ((filled 895 false idle).acct.log.low = false ∧ (filled 895 false idle).acct.log.records.length + 1 ≤ 896
      ∧ 896 < (filled 896 false idle).acct.log.records.length + 1 ∧ (filled 897 true idle).acct.log.low = true)
    ∧ (running.jobState = .running ∧ (inState .hold running).jobState = .hold ∧ idle.jobState.inRun = false) := by decide
theorem witness_BundlesCloseAndTakeSuspects :
    ((queued 7 running).acct.manifests.length < 8 ∧ 8 ≤ (queued 8 running).acct.manifests.length)
    ∧ (running.acct.bundle = some open1 ∧ open1.closePending = none
      ∧ (bundle 3 (some .size)).closePending = some .size)
    ∧ ((∀ b, idle.acct.bundle = some b → b.number ≠ 1) ∧ open1.number = 1 ∧ open1.exceptions.length < 31)
    ∧ (let b := { open1 with exceptions := List.replicate 31 ⟨.culled, 0, [], .voided⟩ }
       b.exceptions.length = 31 ∧ b.closePending = none ∧ (queued 6 running).acct.manifests.length < 7)
    ∧ 32 ≤ ({ open1 with exceptions := List.replicate 32 ⟨.culled, 0, [], .voided⟩ } : OpenBundle).exceptions.length :=
  ⟨by decide, by decide, ⟨(by intro b h; cases h), by decide, by decide⟩, by decide, by decide⟩
/-- A run draining with this bundle and nothing else left. -/
def drained (b : Option OpenBundle) (s : State) : State := { inState .draining s with acct := { (inState .draining s).acct with bundle := b } }
theorem witness_CompletionCheckEndsTheJob : running.jobState ≠ .draining
    ∧ (let s := drained (some (bundle 2 (some .final))) running
       s.jobState = .draining ∧ s.table.records = [] ∧ s.acct.rows = [] ∧ s.acct.register = []
        ∧ s.acct.bundle = some (bundle 2 (some .final)))
    ∧ (let s := drained (some open1) (queued 8 running)
       8 ≤ s.acct.manifests.length ∧ open1.closePending ≠ some .final ∧ s.acct.bundle = some open1)
    ∧ (drained none running).acct.bundle = none ∧ (drained (some open1) (queued 7 running)).acct.manifests.length < 8 := by decide

theorem witness_StartRunsTheJob : (idle.ready = true ∧ idle.jobState ≠ .loaded ∧ idle.jobState ≠ .resumable)
    ∧ (loaded.ready = true ∧ loaded.jobState = .loaded ∧ loaded.prun = false ∧ (pressing loaded).prun = true)
    ∧ ((head1 (fun c => { c with state := .unfitted }) loaded).engaged .ply1 = true
      ∧ (head1 (fun c => { c with state := .unfitted }) loaded).heads.p1.state = .unfitted)
    ∧ (¬ ∃ p, loaded.engaged p = true ∧ (loaded.heads.get p).state = .unfitted)
    ∧ ((withRow loaded).acct.rows ≠ [] ∧ (queued 1 loaded).acct.manifests ≠ [])
    ∧ (loaded.acct.rows = [] ∧ loaded.acct.log.records = [] ∧ loaded.acct.register = [] ∧ loaded.acct.manifests = []) :=
  ⟨by decide, by decide, by decide,
   fun ⟨p, h⟩ => absurd h (all_plies (P := fun p => ¬ (loaded.engaged p = true ∧ (loaded.heads.get p).state = .unfitted)) (by decide) p),
   by decide, by decide⟩
/-- The job recovered, to be resumed. -/
def resumable : State := { inState .resumable running with heads := idle.heads, tracker := idle.tracker }
theorem witness_StartRunsTheJob_begun :
    (loaded.ready = true ∧ loaded.prun = false ∧ (∀ p, loaded.engaged p = true → (loaded.heads.get p).state ≠ .unfitted)
      ∧ loaded.acct.job.geometry.GreatestPath 1 ∧ loaded.acct.rows = [])
    ∧ (loaded.jobState = .loaded ∧ loaded.acct.log.records = [] ∧ loaded.acct.log.low = false ∧ loaded.acct.register = []
      ∧ loaded.acct.manifests = [])
    ∧ (resumable.ready = true ∧ resumable.prun = false ∧ resumable.jobState = .resumable
      ∧ (∀ p, resumable.engaged p = true → (resumable.heads.get p).state ≠ .unfitted)
      ∧ resumable.acct.job.geometry.GreatestPath 1 ∧ resumable.acct.rows = []
      ∧ resumable.acct.counters.setsRegular.value < resumable.scheme.quantity ∧ (queued 7 resumable).acct.manifests.length < 8)
    ∧ (8 ≤ (queued 8 resumable).acct.manifests.length ∧ (filled 897 true resumable).acct.log.low = true)
    ∧ (let s := withEntries [entry .waiting] (scheme (fun c => { c with quantity := 1 }) (holding set0 resumable))
       s.scheme.quantity ≤ s.acct.counters.setsRegular.value ∧ s.acct.register ≠ [] ∧ s.acct.manifests.length < 8
        ∧ s.jobState = .resumable) :=
  ⟨⟨by decide, by decide, all_plies (by decide), ⟨all_plies (by decide), .ply1, by decide, by decide⟩, by decide⟩, by decide,
   ⟨by decide, by decide, by decide, all_plies (by decide), ⟨all_plies (by decide), .ply1, by decide, by decide⟩, by decide,
    by decide, by decide⟩, by decide, by decide⟩
/-- A run in HOLD with these causes, to return to a state. -/
def held (h : HoldSet) (back : JobState) : State :=
  { running with control := { running.control with holds := h }, acct := running.acct.inState .hold (some back) }
theorem witness_HoldAndRelease :
    (running.ready = true ∧ running.jobState = .running ∧ (inState .draining running).jobState = .draining)
    ∧ ((held ⟨true, false, false, false⟩ .running).ready = true ∧ (held ⟨true, false, false, false⟩ .running).jobState = .hold)
    ∧ (idle.ready = true ∧ idle.jobState ≠ .running ∧ idle.jobState ≠ .draining ∧ idle.jobState ≠ .hold)
    ∧ ((held ⟨true, true, false, false⟩ .running).control.holds.log = true)
    ∧ (let s := held ⟨true, false, false, false⟩ .draining
       s.control.holds.log = false ∧ s.control.holds.manifest = false ∧ s.control.holds.exhausted = false
        ∧ s.acct.header.savedReturn = some .draining) := by decide
/-- A part in RECOVERY, set 0's numbers in doubt and one entry in doubt. -/
def doubtful (q : CullPolicy) : State :=
  { idle with acct := withEntries [entry .doubt] (policy (fun x => { x with cullPolicy := q }) (inState .recovery (holding set0 running))) |>.acct }
theorem witness_AbortDisposesOfTheJob :
    (loaded.ready = true ∧ loaded.key = true ∧ loaded.jobState = .loaded)
    ∧ (let s := withEntries [entry .waiting, { entry .voidPending with number := 2 }] atGate
       s.ready = true ∧ s.key = true ∧ s.jobState.inRun = true ∧ RingInv s ∧ QuietInv s
      ∧ (s.acct.register.map RemakeEntry.number).Nodup ∧ s.acct.counters.voided.value + 2 ≤ 99999999
      ∧ s.acct.bundle = some open1 ∧ set0 ∈ s.table.records ∧ set0.state = .opened ∧ set0.kind = .regular)
    ∧ (let s := doubtful .void
       s.ready = true ∧ s.key = true ∧ s.jobState = .recovery ∧ RingInv s ∧ QuietInv s
      ∧ (s.acct.register.map RemakeEntry.number).Nodup ∧ s.table.records = [] ∧ s.doubtSets = [[num 1]]
      ∧ entry .doubt ∈ s.acct.register)
    ∧ ((inState .resumable idle).ready = true ∧ (inState .resumable idle).acct.bundle = none)
    ∧ 8 ≤ (queued 8 atGate).acct.manifests.length :=
  ⟨by decide,
   ⟨by decide, by decide, by decide, ring_of (by decide), quiet_inv_of_run (by decide) (by decide) (by decide), by decide,
    by decide, by decide, by decide, by decide, by decide⟩,
   ⟨by decide, by decide, by decide, ring_of (by decide), fun _ => ⟨fun _ => quiet_idle, fun _ => by decide⟩, by decide,
    by decide, by decide, by decide⟩, by decide, by decide⟩
theorem witness_CloseReturnsThePartToIdle : (idle.ready = true ∧ idle.key = true ∧ idle.jobState ≠ .complete ∧ idle.jobState ≠ .aborted)
    ∧ (let s := inState .complete idle
       s.ready = true ∧ s.jobState = .complete ∧ s.acct.log.records = [] ∧ s.acct.manifests = [] ∧ s.acct.rows = []
        ∧ s.acct.register = [] ∧ (queued 1 s).acct.manifests ≠ []) := by decide
/-- JUMP_IF from one number to another. -/
def jumpPl (cur new : Nat) : List Byte := 1 :: numField (num cur) ++ numField (num new)
theorem witness_JumpIfMovesTheStream :
    let s := running
    let c := s.scheme
    (s.ready = true ∧ s.key = true ∧ formatOk .jumpIf (jumpPl 1 5) = true ∧ s.jobState = .running ∧ c.mode ≠ .split
      ∧ s.acct.header.marks = ⟨.item (num 1), .item (num 1)⟩ :: [])
    ∧ (u8 (2 :: numField (num 1) ++ numField (num 5)) 0 ≠ 1 ∧ u8 (jumpPl 1 5) 0 = 1)
    ∧ (∀ x, c.member (suppliedAt (jumpPl 2 5) 1) = some x → x.same (num 1) = false)
    ∧ (c.member (suppliedAt (jumpPl 1 5) 1) = some (num 1) ∧ (num 1).same (num 1) = true)
    ∧ (c.member (suppliedAt (jumpPl 1 5) 9) = some (num 5)
      ∧ c.onStream (c.posOf (num 5)) = true ∧ c.forward (c.posOf (num 1)) (c.posOf (num 5)) = true
      ∧ c.holds (c.posOf (num 5)) ((c.quantity - s.acct.counters.setsRegular.value) * c.lanes) = true
      ∧ s.acct.counters.jumped.value + c.distance (c.posOf (num 1)) (c.posOf (num 5)) ≤ 99999999)
    ∧ (c.member (suppliedAt (jumpPl 1 1) 9) = some (num 1) ∧ c.forward (c.posOf (num 1)) (c.posOf (num 1)) = false)
    ∧ (s.acct.log.records.length < 1024 ∧ s.acct.log.records.length + 1 ≤ 896 ∧ s.acct.header.jumpList = []
      ∧ 1024 ≤ (filled 1024 true s).acct.log.records.length)
    ∧ (holding set0 s).acct.header.marks = [⟨.item (num 2), .item (num 1)⟩] :=
  ⟨by decide, by decide, (by intro x h; rw [show running.scheme.member (suppliedAt (jumpPl 2 5) 1) = some (num 2) from by decide] at h; cases h; decide),
   by decide, by decide, by decide, by decide, by decide⟩
theorem witness_RecoverDisposesOfTheDoubt :
    ((doubtful .void).ready = true ∧ (doubtful .void).key = true ∧ (doubtful .void).jobState = .recovery
      ∧ (doubtful .void).policy.cullPolicy = .void)
    ∧ ((doubtful .remake).policy.cullPolicy = .remake ∧ ((doubtful .remake).acct.register.map RemakeEntry.number).Nodup
      ∧ (let s := { doubtful .remake with acct := { (doubtful .remake).acct with nextEntry := 2 } }
         ∀ e ∈ s.acct.register, e.number < s.acct.nextEntry)
      ∧ (doubtful .remake).acct.counters.voided.value + 2 ≤ 99999999)
    ∧ ((doubtful .void).doubtSets = [[num 1]] ∧ (doubtful .remake).doubtSets = [[num 1]]
      ∧ entry .doubt ∈ (doubtful .remake).acct.register) := by decide
theorem witness_InDoubtSetsAreTheLostRecords :
    let s := doubtful .void
    s.scheme.mode ≠ .split ∧ s.scheme.inRange = true ∧ s.scheme.method ≠ .mod11s ∧ s.acct.header.jumpList = []
      ∧ s.acct.header.marks = [⟨.item (num 2), .item (num 1)⟩]
      ∧ (∀ n, Mark.item (num 1) = .item n → n = s.scheme.numAt (s.scheme.posOf n) ∧ s.scheme.posOf n ≤ s.scheme.lastPos)
      ∧ s.scheme.issueRun (1 * s.scheme.numbersPerSet) (.item (num 1)) = some ([num 1], 0, .item (num 2)) :=
  ⟨by decide, by decide, by decide, by decide, by decide, (by intro n h; cases h; decide), by decide⟩
theorem witness_StopClearClearsWhatHasEnded : running.ready = true ∧ 64 ≤ (64 : Byte).toNat ∧ (63 : Byte).toNat < 64
    ∧ Table71 running (.headFault .ply1) = true ∧ Table71 (pressing running) .webBreak = true := by decide

theorem witness_CullMarksTheSets : (atGate.ready = true ∧ atGate.jobState.inRun = true ∧ RingInv atGate)
    ∧ (4294967295 < 4294967296 ∧ 4294967295 + 1 - 1 ≤ 4294967295 ∧ 0 + 256 - 1 ≤ 4294967295)
    ∧ ((numField (num 1)).length = 8 ∧ numberFieldOk (numField (num 1)) 0 = true ∧ (1 : Byte).toNat ≤ atGate.scheme.lanes)
    ∧ (atGate.scheme.member (suppliedAt (numField (num 0)) 0) = none
      ∧ atGate.scheme.member (suppliedAt (numField (num 1)) 0) = some (num 1))
    ∧ ([0].Pairwise (· < ·) ∧ ∀ i, i ∈ [0] ↔ (∃ r ∈ atGate.table.records, r.index = i
        ∧ ∃ x, atGate.scheme.laneNumber r.numbers 1 = some x ∧ x.same (num 1) = true)) := by
  refine ⟨⟨by decide, by decide, ring_of (by decide)⟩, by decide, by decide, by decide, by decide, ?_⟩
  intro i
  rw [show atGate.table.records = [set0] from by decide]
  constructor
  · intro h
    exact ⟨set0, List.mem_singleton.mpr rfl, (List.mem_singleton.mp h).symm, num 1, by decide, by decide⟩
  · rintro ⟨r, hr, rfl, -⟩
    rw [List.mem_singleton.mp hr]; decide
/-- Head 1 FAULTED. -/
def faulted1 : State := head1 (fun c => { c with state := .faulted, cause := some .head, code := 7 }) running
theorem witness_ResumesReturnToService :
    (running.ready = true ∧ ((7 : Byte) = 0 ∨ 6 < (7 : Byte).toNat) ∧ (6 : Byte).toNat = Ply.ply6.number
      ∧ (running.heads.get .ply6).state ≠ .faulted)
    ∧ (faulted1.ready = true ∧ (1 : Byte).toNat = Ply.ply1.number ∧ (faulted1.heads.get .ply1).state = .faulted
      ∧ faulted1.jobState.inRun = true)
    ∧ (running.reader.state.suspended = false
      ∧ ({ running with reader := ⟨.skewed, [], 0, 0⟩ }).reader.state.suspended = true)
    ∧ (running.tracker.gate.state ≠ .skewed ∧ (station .gate .skewed true running).tracker.gate.state = .skewed
      ∧ (station .gate .skewed true running).ready = true) := by decide
theorem witness_ManifestFreeMakesRoom :
    ((queued 8 running).ready = true ∧ (queued 8 running).acct.manifests.length ≤ 8 ∧ running.acct.manifests.length < (1 : Byte).toNat)
    ∧ (8 ≤ (queued 8 running).acct.manifests.length ∧ running.jobState ≠ .draining
      ∧ ∀ x, (queued 8 running).acct.bundle = some x → x.closePending ≠ some .final ∧ x.closePending ≠ some .aborted)
    ∧ (let s := { queued 8 (inState .aborted idle) with
        acct := { (queued 8 (inState .aborted idle)).acct with bundle := some (bundle 2 (some .aborted)) } }
       s.ready = true ∧ s.acct.bundle = some (bundle 2 (some .aborted)) ∧ s.jobState ≠ .draining
        ∧ (bundle 2 (some .aborted)).closePending = some .aborted ∧ 2 ≤ (2 : Byte).toNat)
    ∧ (let s := drained (some (bundle 2 (some .final))) (queued 8 running)
       s.ready = true ∧ s.acct.bundle = some (bundle 2 (some .final)) ∧ s.jobState = .draining ∧ s.table.records = []
        ∧ s.acct.rows = [] ∧ s.acct.register = [] ∧ (bundle 2 (some .final)).closePending = some .final) :=
  ⟨by decide, ⟨by decide, by decide, (by intro x h; cases h; decide)⟩, by decide, by decide⟩
theorem witness_LogFreeFlushesThePendingVoids :
    ((filled 1024 true running).ready = true ∧ 1024 < 65536 ∧ (filled 1024 true running).acct.log.records.length ≤ 1024
      ∧ running.acct.log.records.length < 1)
    ∧ ((filled 1024 true running).acct.rows = [] ∧ (∀ e ∈ running.acct.register, e.state ≠ .voidPending)
      ∧ running.jobState ≠ .draining)
    ∧ ((filled 897 true running).acct.log.low = true
      ∧ ((filled 897 true running).acct.log.records.drop 1).length ≤ 896
      ∧ ¬ ((filled 897 true running).acct.log.records.drop 0).length ≤ 896)
    ∧ (let s := withRow (filled 1024 true (counted .gate 4 (holding { set0 with state := .voidPending } running)))
       s.acct.rows.Perm [row] ∧ RingInv s ∧ s.acct.log.low = decide (896 < s.acct.log.records.length)
        ∧ [row] = ([row].filter fun w => w.setIndex.isSome) ++ s.acct.rows.filter (fun w => w.setIndex.isNone))
    ∧ (let w := { row with numbers := [(num 8, 1), (num 9, 1)] }
       let s := filled 896 false { running with acct := { running.acct with rows := [w] } }
       s.ready = true ∧ s.acct.rows.Perm [w] ∧ RingInv s ∧ s.acct.log.low = decide (896 < s.acct.log.records.length)
        ∧ [w] = ([w].filter fun w => w.setIndex.isSome) ++ s.acct.rows.filter (fun w => w.setIndex.isNone)
        ∧ (after (.logFree 9 (be16 1)) s).acct.log.low = true)
    ∧ (let s := withEntries [entry .voidPending, { entry .waiting with number := 2 }] (filled 1024 true (drained (some open1) running))
       s.ready = true ∧ s.jobState = .draining ∧ s.acct.rows.Perm [] ∧ RingInv s
        ∧ s.acct.log.low = decide (896 < s.acct.log.records.length)
        ∧ (s.acct.register.map RemakeEntry.number).Nodup
        ∧ (s.acct.register.filter fun e => e.state == .voidPending) = [entry .voidPending]) :=
  ⟨by decide, by decide, by decide, ⟨List.Perm.refl _, ring_of (by decide), by decide, by decide⟩,
   ⟨by decide, List.Perm.refl _, ring_of (by decide), by decide, by decide, by decide⟩,
   by decide, by decide, List.Perm.refl _, ring_of (by decide), by decide, by decide, by decide⟩

/-! ### One step of each command, against the manual -/

/-- R192: part code 630, revision 3, all heads fitted, rate code and sizes follow. -/
theorem test_ident : (sent (.ident 9 []) idle).take 5 = [0x00, 0x02, 0x76, 3, 0x3F] := by decide
theorem test_status_length : (sent (.status 9 []) running).length = 113 ∧ (sent (.status 9 []) running)[1]? = some 2 := by decide
theorem test_reset_waits : (after (.reset 9 []) idle).link.resetAwaiting = true ∧ sent (.reset 9 []) idle = [0x00] := by decide
/-- R15: with KEY made active low the high input is no longer asserted, and a change to inactive is timed. -/
theorem test_set_lines :
    let x : LineSettings := { LineSettings.factory with lines := LineSettings.factory.lines.set .key ⟨true, .ms20⟩ }
    (after (.setLines 9 x.bytes) idle).lines.pending.key = some 0 ∧ (after (.setLines 9 x.bytes) idle).key = true := by decide
theorem test_set_geometry_returns_to_idle : (after (.setGeometry 9 job.geometry.bytes) loaded).jobState = .idle := by decide
theorem test_set_scheme : (after (.setScheme 9 (case1.bytes 0xFF)) idle).scheme = case1 := by decide
theorem test_set_format : (after (.setFormat 9 (ply2Format.bytes .ply2)) idle).acct.job.formats.p2 = ply2Format := by decide
theorem test_set_policy_privilege : sent (.setPolicy 9 job.policy.bytes) State.reset = [0x03] := by decide
theorem test_commit : (after (.commit 9 []) idle).jobState = .loaded := by decide
theorem test_start : (after (.start 9 []) loaded).jobState = .running ∧ (after (.start 9 []) loaded).tracker.gate.delay = some 3 := by
  decide
theorem test_start_press_running : sent (.start 9 []) (pressing loaded) = [0x0C] := by decide
theorem test_hold : sent (.hold 9 []) running = [0x00, 3, 1] := by decide
theorem test_release : (after (.release 9 []) (held ⟨true, false, false, false⟩ .running)).jobState = .running := by decide
theorem test_release_persists : sent (.release 9 []) (held ⟨true, true, false, false⟩ .running) = [0x0B, 3, 3] := by decide
/-- R163: set 0's number is voided ABORTED with its set index. -/
theorem test_abort : (after (.abort 9 []) atGate).acct.log.records.map (fun r => (r.number, r.cause, r.setIndex))
    = [(num 1, .aborted, some 0)] := by decide
theorem test_close : (after (.close 9 []) (inState .complete idle)).acct.job = JobDef.default := by decide
/-- R165: from 1 to 5 four items are jumped. -/
theorem test_jump_if : (after (.jumpIf 9 (jumpPl 1 5)) running).acct.counters.jumped.value = 4 := by decide
/-- R176: the in-doubt set becomes a WAITING entry behind the one that was in doubt. -/
theorem test_recover_remake : ((after (.recover 9 [1]) { doubtful .remake with acct := { (doubtful .remake).acct with nextEntry := 2 } }).acct.register.map
    fun e => (e.number, e.state)) = [(1, .waiting), (2, .waiting)] := by decide
theorem test_stop_clear : (after (.stopClear 9 [0, 0, 0x04]) { idle with control := ⟨HoldSet.empty, { StopSet.empty with gateSkew := true }⟩ }).control.stops.any
    = (after (.stopClear 9 [0, 0, 0]) { idle with control := ⟨HoldSet.empty, StopSet.empty⟩ }).control.stops.any := by decide
theorem test_row_read_absent : sent (.rowRead 9 (be32 0)) idle = [0x08, 0, 0, 0, 0, 0, 0, 0] := by decide
theorem test_cull : (after (.cull 9 (0 :: be32 0 ++ be16 1)) atGate).table.records.map SetRecord.hostCull = [true] := by decide
theorem test_head_resume : (after (.headResume 9 [1]) (late1 .faulted (counted .marriage 1 faulted1))).heads.p1.state = .leadIn
    ∧ (after (.headResume 9 [1]) (late1 .faulted (counted .marriage 2 faulted1))).heads.p1.state = .numbering := by decide
theorem test_reader_resume : (after (.readerResume 9 []) { running with reader := ⟨.lagging, [], 4, 0⟩ }).reader = ⟨.reading, [], 0, 0⟩ := by
  decide
theorem test_gate_resume : (after (.gateResume 9 []) (counted .marriage 9 (station .gate .skewed true running))).tracker.gate
    = ⟨.aligned, false, 9, some 3⟩ := by decide
theorem test_manifest_read : (sent (.manifestRead 9 [3, 0]) running, (sent (.manifestRead 9 [1, 0]) running).take 3)
    = ([0x05], [0x00, 0, 0]) := by decide
/-- Section 12.3: a MANIFEST_FREE of 2 leaves 6 and withdraws hold cause MANIFEST. -/
theorem test_manifest_free : (after (.manifestFree 9 [2]) (queued 8 (held ⟨false, false, true, false⟩ .running))).acct.manifests.length = 6
    ∧ (after (.manifestFree 9 [2]) (queued 8 (held ⟨false, false, true, false⟩ .running))).control.holds.manifest = false := by decide
theorem test_log_read : (sent (.logRead 9 [0, 0, 1]) (filled 2 false running)).take 9 = [0x00, 0, 2, 0, 0, 0, 0, 0, 1] := by decide
/-- Section 12.2: removing 3 of 1 024 records lets a row of one number be written. -/
theorem test_log_free : (after (.logFree 9 (be16 3)) (withRow (filled 1024 true running))).acct.log.records.length = 1022
    ∧ (after (.logFree 9 (be16 3)) (withRow (filled 1024 true running))).acct.rows = [] := by decide
theorem test_remake_read : (sent (.remakeRead 9 [0, 1]) (withEntries [entry .waiting] running)).take 8 = [0x00, 1, 1, 0, 0, 0, 1, 1] := by
  decide
theorem test_counts : (sent (.counts 9 []) running).length = 155 ∧ ((sent (.counts 9 []) running)[5]? = some 2) := by decide
theorem test_unknown_kind : ((after (.unknownKind 0x7F 9 []) idle).link.sending.map Prod.snd) = some ⟨0xFF, 9, [0x01]⟩ := by decide
theorem test_control_frame : after (.controlFrame (CtlFrame.wire ⟨0x11, 9, []⟩)) running = after (.hold 9 []) running := by decide
theorem test_inter_byte_gap : (after (.interByteGap .control [startByte, 0, 3]) idle).rxControl = .hunting := by decide
theorem test_framing_error : (after (.framingError (.head .ply1) (PortFrame.wire ⟨0xC2, [7]⟩)) running).heads.p1.code = 7 := by decide
theorem test_link_break : (after .linkBreak { idle with link := { idle.link with reports := [notice] } }).link.reportsLost = true := by
  decide
theorem test_return_to_mark : (after .returnToMark { idle with rxControl := .awaitMark }).rxControl = .hunting := by decide
theorem test_frame_sent : (after (.frameSent .control) (sending .report [] false)).link.sending = none := by decide
/-- R173: a run that a reset finds goes to RECOVERY, with POWER_LOSS latched. -/
theorem test_power_on : (after (.powerOn Straps.default) running).jobState = .recovery
    ∧ (after (.powerOn Straps.default) running).control.stops.powerLoss = true := by decide
theorem test_power_fail : (after (.powerFail 1) written).acct = loaded.acct ∧ (after (.powerFail 0) written).acct = running.acct := by decide
theorem test_rstn_active : (after (.rstnActive 0) atGate).table = ⟨[], 0⟩ ∧ (after (.rstnActive 0) atGate).jobState = .running := by decide
theorem test_rstn_release : (after (.rstnRelease Straps.default) inReset).jobState = .recovery := by decide
/-- R12: with the 20 ms debounce the level does not follow at once; with debounce off it does. -/
theorem test_line_input_change : (after (.lineInputChange (.line .prun) true) idle).lines.pending.prun = some 0
    ∧ (after (.lineInputChange (.line .prun) true) (sharp idle)).lines.conditioned.prun = true := by decide
theorem test_debounce_expired : (after (.debounceExpired .wbrk) (timing .wbrk true 20 idle)).control.stops.webBreak = true := by decide
theorem test_head_cue : (after (.headCue .ply1) running).table.records.map (fun r => (r.index, r.numbers)) = [(0, [num 1])]
    ∧ (after (.headCue .ply1) running).acct.counters.issued.value = 1 := by decide
theorem test_load_timeout : (after (.loadTimeout .ply1) (loads [⟨3, 0, 3⟩] running)).heads.p1.cause = some .timeout := by decide
theorem test_marriage_cue : (after .marriageCue (counted .marriage 1 (counted (.head .ply1) 2 (counted .reader 2 (counted .gate 2
    (holding { set0 with marriage := .notYet } running)))))).table.records.map SetRecord.marriage = [.married] := by decide
theorem test_reader_cue : (after .readerCue (counted .reader 2 (holding set0 running))).reader.queue = [forSet0] := by decide
theorem test_gate_cue : (after .gateCue atGate).gate.divert = false ∧ (after .gateCue atGate).acct.counters.setsDelivered.value = 1 := by
  decide
theorem test_gate_cue_waste : (after .gateCue running).acct.counters.setsWaste.value = 1 := by decide
theorem test_jog_end : (after .jogEnd { running with gate := ⟨true, some 7, 0⟩ }).gate.jog = none := by decide
theorem test_done : (after (.done .ply1 3 1) (loads [⟨3, 0, 0⟩] (holding { set0 with plies := (PerPly.const none).set .ply1 (some .loaded) } running))).table.records.map
    (fun r => r.plies.p1) = [some .misfire] := by decide
theorem test_headfault : (after (.headfault .ply1 5) running).heads.p1.code = 5 ∧ (after (.headfault .ply1 5) running).control.stops.any = true := by
  decide
theorem test_head_malformed : (after (.headMalformedMessage .ply1 0x33 []) running).heads.p1.cause = some .protocol := by decide
theorem test_result : (after (.result [1, 6, 0x30, 0x30, 0x30, 0x30, 0x30, 0x32]) (waitingOn [forSet0] (holding { set0 with verification := .notYet } running))).table.records.map
    SetRecord.verification = [.mismatch 1 6 .digits] := by decide
theorem test_result_noread : (after (.result [1, 0xFF]) (waitingOn [forSet0] (holding { set0 with verification := .notYet } running))).table.records.map
    SetRecord.verification = [.noread] := by decide
theorem test_readerfault : (after (.readerfault 6) running).reader = ⟨.faulted, [], 6, 0⟩ := by decide
theorem test_reader_malformed : (after (.readerMalformedMessage 0x44 []) running).reader.state = .faulted := by decide
/-- One ms of the clock on an empty queue (log entry 6). -/
theorem test_tick : step { running with gate := ⟨true, some 7, 0⟩ }
    = .next { running with gate := ⟨true, some 6, 0⟩, journal := [running.acct] } := by rfl
/-- R66: a FIT strap that has changed is read at the next reset, and not before. -/
theorem test_fit_strap : (after (.lineInputChange (.fit .ply1) false) idle).heads.p1.state = .idle
    ∧ (after (.frameSent .control) (after (.lineInputChange (.fit .ply1) false) (sending .reply [] true))).heads.p1.state = .unfitted := by
  decide
/-- R196: SET_SCHEME's reply writes the start number with its check; 6 under MOD7 has check 6. -/
theorem test_set_scheme_check :
    let c : Scheme := { (case4 .mod7) with startSerial := 6 }
    (sent (.setScheme 9 (c.bytes 0xFF)) idle).drop 2 = c.bytes 6 := by decide
/-- R12: the ms in which a line's 20 ms are reached takes the change. -/
theorem test_tick_expires : (match step (timing .wbrk true 19 idle) with
    | .next t => t.lines.conditioned.wbrk && t.control.stops.webBreak | _ => false) = true := by decide
end Sys2Proof.Tests
end

/-! The skew check of a marriage cue (R2, R7, R8): what a cue leaves in each station, and which stop causes the check
latches. -/

namespace Sys2Proof.Machine
open Sys2Proof

/-! ### The stations of the tracker -/

@[simp] theorem Ply.mem_all (p : Ply) : p ∈ Ply.all := by cases p <;> decide

theorem Tracker.get_set_marriage {i : StationId} (h : i ≠ .marriage) (t : Tracker) (x : Station) :
    (t.set .marriage x).get i = t.get i := by
  cases i with
  | marriage => exact absurd rfl h
  | head _ | reader | gate => rfl

/-- R7 checks every station but M, each against the same marriage count. -/
theorem Tracker.get_checked {i : StationId} (h : i ≠ .marriage) (t : Tracker) :
    t.checked.get i = (t.get i).checked t.marriage.count := by
  cases i with
  | marriage => exact absurd rfl h
  | head p => exact PerPly.get_ofFn (fun q => (t.heads.get q).checked t.marriage.count) p
  | reader | gate => rfl

@[simp] theorem Tracker.checked_marriage (t : Tracker) : t.checked.marriage = t.marriage := rfl

/-! ### One station at the check (R7) -/

theorem Station.goesSkewed_of_aligned {x : Station} (h : x.state = .aligned) (n : Nat) :
    x.goesSkewed n = true ↔ 2 ≤ (x.skew n).natAbs ∨ (x.skew n ≠ 0 ∧ x.prevSkew = true) := by
  simp [Station.goesSkewed, h]

theorem Station.checked_of_not_aligned {x : Station} (h : x.state ≠ .aligned) (n : Nat) : x.checked n = x :=
  if_neg h

theorem Station.checked_of_aligned {x : Station} (h : x.state = .aligned) (n : Nat) :
    x.checked n = { x with
      state := if 2 ≤ (x.skew n).natAbs ∨ (x.skew n ≠ 0 ∧ x.prevSkew = true) then .skewed else .aligned
      prevSkew := decide (x.skew n ≠ 0) } := by
  simp only [Station.checked, h, if_true, Station.goesSkewed_of_aligned h]

/-- The count of a marriage cue: raised by 1, or held at the top value (R2). -/
theorem State.counted_marriage (s : State) :
    s.tracker.marriage.counted = { s.tracker.marriage with count := s.nextMarriage } := by
  by_cases h : s.tracker.marriage.count < Config.countTop
  · have hheld : s.tracker.marriage.held = false := decide_eq_false (Nat.not_le_of_lt h)
    simp only [Station.counted, State.nextMarriage, hheld, h, Bool.false_eq_true, if_false, if_true]
  · have hheld : s.tracker.marriage.held = true := decide_eq_true (Nat.le_of_not_lt h)
    simp only [Station.counted, State.nextMarriage, hheld, h, if_false, if_true]

/-- The statements' `loses` is the model's own test of R7, taken with the count of the next marriage cue. -/
theorem State.loses_eq_goesSkewed (s : State) (i : StationId) :
    s.loses i = (s.tracker.get i).goesSkewed s.nextMarriage := by
  have hskew : ∀ x : Station, x.skew s.nextMarriage = (x.count : Int) - s.nextMarriage := fun _ => rfl
  rw [Bool.eq_iff_iff]
  simp only [State.loses, Station.goesSkewed, hskew, Bool.and_eq_true, Bool.or_eq_true, decide_eq_true_eq,
    bne_iff_ne]
  grind

/-! ### The stop causes that the check latches (R8) -/

theorem StopSet.has_put (k : StopSet) (c d : StopCause) (b : Bool) :
    (k.put c b).has d = if d = c then b else k.has d := by
  cases c with
  | headFault p =>
    cases d with
    | headFault q => simp [StopSet.put, StopSet.has, PerPly.get_set]
    | _ => rfl
  | skew p =>
    cases d with
    | skew q => simp [StopSet.put, StopSet.has, PerPly.get_set]
    | _ => rfl
  | _ => cases d <;> rfl

theorem latch_has (c d : StopCause) (s : State) :
    (latch c s).control.stops.has d = (s.control.stops.has d || decide (d = c)) := by
  by_cases hl : s.control.stops.has c = true <;> by_cases hd : d = c <;>
    simp [latch, hl, hd, StopSet.has_put]

/-- Cause SKEW is the one cause of a channel fault that latches nothing more (R67). -/
theorem enterFault_skew_control (p : Ply) (s : State) : (enterFault p .skew s).control = s.control := by
  cases h : (s.heads.get p).state <;> simp [enterFault, h]

theorem skewHead_control (p : Ply) (s : State) : (skewHead p s).control = s.control := by
  simp [skewHead, enterFault_skew_control]

theorem skewHeads_tracker (ps : List Ply) (s : State) :
    (ps.foldl (fun u p => skewHead p (latch (.skew p) u)) s).tracker = s.tracker := by
  induction ps generalizing s with
  | nil => rfl
  | cons p ps ih => simp [ih]

theorem skewHeads_has (ps : List Ply) (s : State) (c : StopCause) :
    (ps.foldl (fun u p => skewHead p (latch (.skew p) u)) s).control.stops.has c
      = (s.control.stops.has c || ps.any fun p => decide (c = .skew p)) := by
  induction ps generalizing s with
  | nil => simp
  | cons p ps ih => simp [ih, skewHead_control, latch_has, Bool.or_assoc]

/-- The stop cause of a station that becomes SKEWED at the check of this tracker (R8). -/
def Tracker.skewLatches (t : Tracker) : StopCause → Bool
  | .skew p => (t.heads.get p).goesSkewed t.marriage.count
  | .readerSkew => t.reader.goesSkewed t.marriage.count
  | .gateSkew => t.gate.goesSkewed t.marriage.count
  | _ => false

/-- The causes latched for the head stations, for V and for G are, together, those of `skewLatches`. -/
theorem Tracker.skewLatches_eq (t : Tracker) (c : StopCause) :
    t.skewLatches c = ((t.skewingHeads.any fun p => decide (c = .skew p))
      || (t.reader.goesSkewed t.marriage.count && decide (c = .readerSkew))
      || (t.gate.goesSkewed t.marriage.count && decide (c = .gateSkew))) := by
  cases c with
  | skew p =>
    rw [Bool.eq_iff_iff]
    simp [Tracker.skewLatches, Tracker.skewingHeads]
  | _ => simp [Tracker.skewLatches]

theorem skewCheck_tracker (s : State) : (skewCheck s).tracker = s.tracker.checked := by
  simp only [skewCheck]
  split <;> split <;> simp [skewHeads_tracker]

theorem skewCheck_has (s : State) (c : StopCause) :
    (skewCheck s).control.stops.has c = (s.control.stops.has c || s.tracker.skewLatches c) := by
  by_cases hr : s.tracker.reader.goesSkewed s.tracker.marriage.count = true
    <;> by_cases hg : s.tracker.gate.goesSkewed s.tracker.marriage.count = true
    <;> simp [skewCheck, Tracker.skewLatches_eq, hr, hg, latch_has, skewHeads_has, Bool.or_assoc]

/-! ### The marriage cue -/

theorem exec_marriageCue_live {s : State} (h : s.live = true) :
    exec .marriageCue s = .next (transmit (marriageCue (openJournal s))) := by
  show onEvent marriageCue s = _
  simp [onEvent, taken, h]

theorem marriageCue_tracker {s : State} (h : s.jobState.inRun = true) :
    (marriageCue s).tracker = (countCue .marriage s).tracker.checked := by
  simp [marriageCue, State.inJob, h, skewCheck_tracker]

theorem marriageCue_has {s : State} (h : s.jobState.inRun = true) (c : StopCause) :
    (marriageCue s).control.stops.has c
      = (s.control.stops.has c || (countCue .marriage s).tracker.skewLatches c) := by
  simp [marriageCue, State.inJob, h, skewCheck_has]

theorem countCue_marriage_tracker (s : State) :
    (countCue .marriage s).tracker.marriage = { s.tracker.marriage with count := s.nextMarriage } :=
  s.counted_marriage

theorem marriageCue_marriage {s : State} (h : s.jobState.inRun = true) :
    (marriageCue s).tracker.marriage = { s.tracker.marriage with count := s.nextMarriage } := by
  rw [marriageCue_tracker h, Tracker.checked_marriage, countCue_marriage_tracker]

theorem marriageCue_station {s : State} (h : s.jobState.inRun = true) {i : StationId} (hi : i ≠ .marriage) :
    (marriageCue s).tracker.get i = (s.tracker.get i).checked s.nextMarriage := by
  rw [marriageCue_tracker h, Tracker.get_checked hi, countCue_marriage_tracker, countCue_tracker,
    Tracker.get_set_marriage hi]

/-- At a marriage cue the check latches the cause of each station that loses step, and no other. -/
theorem countCue_skewLatches (s : State) (c : StopCause) :
    (countCue .marriage s).tracker.skewLatches c = (match c with
      | .skew p => s.loses (.head p)
      | .readerSkew => s.loses .reader
      | .gateSkew => s.loses .gate
      | _ => false) := by
  cases c <;> simp only [Tracker.skewLatches, countCue_marriage_tracker, State.loses_eq_goesSkewed] <;> rfl

/-- Settles O32: the cue counts at M, checks every other station against that count, and latches the causes of those
that become SKEWED; the transmitter that runs after it changes neither stations nor causes. -/
theorem marriageCueChecksTheStations : Obligations.MarriageCueChecksTheStations := by
  intro s hlive hrun
  have hrun' : (openJournal s).jobState.inRun = true := hrun
  refine ⟨_, exec_marriageCue_live hlive, ?count, ?others, ?aligned, ?stops⟩
  case count =>
    rw [transmit_tracker, marriageCue_marriage hrun']
    rfl
  case others =>
    intro x hx hst
    rw [transmit_tracker, marriageCue_station hrun' hx]
    exact Station.checked_of_not_aligned hst _
  case aligned =>
    intro x hx hst
    rw [transmit_tracker, marriageCue_station hrun' hx]
    exact Station.checked_of_aligned hst _
  case stops =>
    intro c
    rw [transmit_control, marriageCue_has hrun', countCue_skewLatches]
    rfl

end Sys2Proof.Machine

/-! The read-backs of the set table and of the accounting memory (R59, R126, R135, R142): each answers from what is held
and hands the state back as it was. -/

namespace Sys2Proof.Machine
open Sys2Proof

/-! ### Big-endian fields read back -/

@[simp] theorem toNat_byte (n : Nat) : (byte n).toNat = n % 256 := by simp [byte]

theorem u16_be16_append {n : Nat} (h : n < 65536) (rest : List Byte) : u16 (be16 n ++ rest) 0 = n := by
  simp only [u16, u8, be16, List.cons_append, List.nil_append, List.getD_cons_zero, List.getD_cons_succ, toNat_byte]
  omega

theorem u32_be32 {n : Nat} (h : n ≤ Config.countTop) : u32 (be32 n) 0 = n := by
  simp only [Config.countTop] at h
  simp only [u32, u16, u8, be32, List.getD_cons_zero, List.getD_cons_succ, toNat_byte]
  omega

/-! ### A request that changes nothing -/

/-- Past the tests of R186 a request goes to its owner. -/
theorem takeRequest_admitted {k : RequestKind} {pl : List Byte} (tag : Byte) {s : State} (hf : formatOk k pl = true)
    (hk : supervisorOnly k = false) : takeRequest ⟨k.code, tag, pl⟩ s = answer k pl s := by
  simp [takeRequest, hf, hk]

/-- The state in which the owner of a request that arrives at a ready link finds the part: the journal of the step has
begun, and the receiver hunts again after the frame. -/
def State.atOwner (s : State) : State := { openJournal s with rxControl := .hunting }

/-- A request that needs no supervisor and whose owner hands the state back as it was does no more than answer. -/
theorem answersOnly_of_answer {k : RequestKind} {pl out : List Byte} (tag : Byte) {s : State} (hs : s.ready = true)
    (hf : formatOk k pl = true) (hk : supervisorOnly k = false) (ha : answer k pl s.atOwner = (s.atOwner, out)) :
    AnswersOnly (Instr.ofRequest k tag pl) s (replyTo k tag out) := by
  have taken : takeRequest ⟨k.code, tag, pl⟩ s.atOwner = (s.atOwner, out) := (takeRequest_admitted tag hf hk).trans ha
  rw [AnswersOnly, exec_ofRequest]
  exact onRequest_ready (s' := s.atOwner) hs taken rfl

/-- A reply that a test decides, taken apart at the test. -/
theorem answersOnly_ite {p : Prop} [Decidable p] {c : Instr} {s : State} {k : RequestKind} {tag : Byte}
    {a b : List Byte} (h : AnswersOnly c s (replyTo k tag (if p then a else b))) :
    if p then AnswersOnly c s (replyTo k tag a) else AnswersOnly c s (replyTo k tag b) := by
  by_cases hp : p
  · rw [if_pos hp] at h ⊢
    exact h
  · rw [if_neg hp] at h ⊢
    exact h

/-! ### What each owner answers -/

theorem answerRowRead_record {pl : List Byte} {s : State} {r : SetRecord} (h : s.table.recordAt (u32 pl 0) = some r) :
    answerRowRead pl s = okWith (s.tableFields ++ r.view) s := by
  simp only [answerRowRead, h]

/-- With neither a record nor a trace in the slot the lookup comes to the rows (R52), and the row found is shown. -/
theorem answerRowRead_row {pl : List Byte} {s : State} {w : PendingRow} (hr : s.table.recordAt (u32 pl 0) = none)
    (ht : s.table.traceAt (u32 pl 0) = none) (hw : s.rowAt (u32 pl 0) = some w) :
    answerRowRead pl s = okWith (s.tableFields ++ w.view (u32 pl 0)) s := by
  simp only [answerRowRead, State.lookup, hr, ht, hw]

/-- A trace hides the row of its set from the lookup (R52), so either a trace or the want of a row gives NOT_FOUND. -/
theorem answerRowRead_notFound {pl : List Byte} {s : State} (hr : s.table.recordAt (u32 pl 0) = none)
    (h : (s.table.traceAt (u32 pl 0)).isSome = true ∨ s.rowAt (u32 pl 0) = none) :
    answerRowRead pl s = (s, Status.notFound.byte :: s.tableFields) := by
  cases ht : s.table.traceAt (u32 pl 0) with
  | some u => simp only [answerRowRead, State.lookup, hr, ht]
  | none =>
    have hw : s.rowAt (u32 pl 0) = none := h.resolve_left (by simp [ht])
    simp only [answerRowRead, State.lookup, hr, ht, hw]

/-- The counts of the register's entries, state by state in the order of Table 89. -/
theorem State.entryCounts_eq_map (s : State) : s.entryCounts =
    [EntryState.waiting, .inFlight, .doubt, .voidPending].map fun st =>
      byte (s.acct.register.countP fun e => e.state == st) := by
  simp only [State.entryCounts, State.entryCount, List.countP_eq_length_filter, List.map_cons, List.map_nil]

/-! ### The four read-backs at the link -/

theorem rowRead_answersOnly (tag : Byte) {i : Nat} {s : State} (hs : s.ready = true) {out : List Byte}
    (h : answerRowRead (be32 i) s.atOwner = (s.atOwner, out)) :
    AnswersOnly (.rowRead tag (be32 i)) s (replyTo .rowRead tag out) :=
  answersOnly_of_answer (k := .rowRead) tag hs rfl rfl h

theorem rowRead_shows (tag : Byte) {i : Nat} {s : State} (hs : s.ready = true) (hi : i ≤ Config.countTop) :
    (∀ r, s.table.recordAt i = some r →
      AnswersOnly (.rowRead tag (be32 i)) s (replyTo .rowRead tag (Status.ok.byte :: (s.tableFields ++ r.view))))
    ∧ (∀ w, s.table.recordAt i = none → s.table.traceAt i = none → s.rowAt i = some w →
      AnswersOnly (.rowRead tag (be32 i)) s (replyTo .rowRead tag (Status.ok.byte :: (s.tableFields ++ w.view i))))
    ∧ (s.table.recordAt i = none → (s.table.traceAt i).isSome = true ∨ s.rowAt i = none →
      AnswersOnly (.rowRead tag (be32 i)) s (replyTo .rowRead tag (Status.notFound.byte :: s.tableFields))) := by
  have hu : u32 (be32 i) 0 = i := u32_be32 hi
  refine ⟨fun r hr => ?record, fun w hr ht hw => ?row, fun hr h => ?notFound⟩
  case record => exact rowRead_answersOnly tag hs (answerRowRead_record (hu.symm ▸ hr))
  case row =>
    have shown := answerRowRead_row (s := s.atOwner) (hu.symm ▸ hr) (hu.symm ▸ ht) (hu.symm ▸ hw)
    rw [hu] at shown
    exact rowRead_answersOnly tag hs shown
  case notFound => exact rowRead_answersOnly tag hs (answerRowRead_notFound (hu.symm ▸ hr) (hu.symm ▸ h))

theorem manifestRead_shows (tag count start : Byte) {s : State} (hs : s.ready = true) :
    AnswersOnly (.manifestRead tag [count, start]) s (replyTo .manifestRead tag
      (if 1 ≤ count.toNat ∧ count.toNat ≤ 2 ∧ start.toNat ≤ 31 then
        Status.ok.byte ::
          manifestFields s.acct.manifests.length start.toNat (s.acct.manifests.take count.toNat)
      else Status.range.only)) := by
  refine answersOnly_of_answer (k := .manifestRead) tag hs rfl rfl ?_
  simp only [answer, answerManifestRead, u8, List.getD_cons_zero, List.getD_cons_succ]
  split
  · rfl
  · rfl

theorem logRead_shows (tag count : Byte) {position : Nat} (hp : position < 65536) {s : State} (hs : s.ready = true) :
    AnswersOnly (.logRead tag (be16 position ++ [count])) s (replyTo .logRead tag
      (if position ≤ 1023 ∧ 1 ≤ count.toNat ∧ count.toNat ≤ 8 then
        let rs := (s.acct.log.records.drop position).take count.toNat
        Status.ok.byte :: (be16 s.logFill ++ be32 s.acct.log.freed ++ [flagByte s.acct.log.low, byte rs.length]
          ++ (rs.map VoidRecord.bytes).flatten)
      else Status.range.only)) := by
  refine answersOnly_of_answer (k := .logRead) tag hs rfl rfl ?_
  have hc : u8 (be16 position ++ [count]) 2 = count.toNat := rfl
  simp only [answer, answerLogRead, u16_be16_append hp, hc]
  split
  · rfl
  · rfl

/-- The attempt limit is that of the definition as held, a job committed or not (log entry 32). -/
theorem remakeRead_shows (tag position count : Byte) {s : State} (hs : s.ready = true) :
    AnswersOnly (.remakeRead tag [position, count]) s (replyTo .remakeRead tag
      (if position.toNat ≤ 63 ∧ 1 ≤ count.toNat ∧ count.toNat ≤ 6 then
        let es := (s.acct.register.drop position.toNat).take count.toNat
        Status.ok.byte :: ([byte s.acct.register.length] ++ s.entryCounts
          ++ [byte s.policy.attemptLimit, byte es.length] ++ (es.map RemakeEntry.bytes).flatten)
      else Status.range.only)) := by
  refine answersOnly_of_answer (k := .remakeRead) tag hs rfl rfl ?_
  simp only [answer, answerRemakeRead, u8, List.getD_cons_zero, List.getD_cons_succ]
  split
  · rfl
  · rfl

/-- Settles O24: each read-back passes the tests of the link, its owner hands the state back as it was, and the reply is
what the owner finds at the place asked for. -/
theorem readBacksShowWhatIsHeld : Obligations.ReadBacksShowWhatIsHeld := by
  refine ⟨fun tag i s hs hi => ?rowRead, fun tag count start s hs => ?manifestRead,
    fun tag count position s hs hp => ?logRead, fun tag position count s hs => ?remakeRead⟩
  case rowRead => exact rowRead_shows tag hs hi
  case manifestRead => exact answersOnly_ite (manifestRead_shows tag count start hs)
  case logRead => exact answersOnly_ite (logRead_shows tag count hp hs)
  case remakeRead =>
    have shown := remakeRead_shows tag position count hs
    rw [State.entryCounts_eq_map] at shown
    exact answersOnly_ite shown

end Sys2Proof.Machine

/-! The resumes (R82, R102, R116): what the removal of a channel's outstanding loads does to the table, the whole next
state of each resume, and its answer at the link. -/

namespace Sys2Proof.Machine
open Sys2Proof

/-! ### One update of a ply for several sets (R52, R53) -/

@[simp] theorem SetRecord.updatePly_state (r : SetRecord) (p : Ply) (st : PlyStatus) :
    (r.updatePly p st).state = r.state := by
  simp only [SetRecord.updatePly]
  split <;> rfl

/-- An update is absorbed by the status it has just given (Table 33). -/
theorem PlyStatus.update_idem (old new : PlyStatus) : (old.update new).update new = old.update new := by
  cases new <;> cases old <;> rfl

theorem SetRecord.updatePly_idem (r : SetRecord) (p : Ply) (st : PlyStatus) :
    (r.updatePly p st).updatePly p st = r.updatePly p st := by
  cases h : r.plies.get p <;> simp [SetRecord.updatePly, h, PlyStatus.update_idem]

theorem SetTable.modifyOpen_updatePly (t : SetTable) (p : Ply) (i : Nat) (st : PlyStatus) :
    t.modifyOpen i (fun r => r.updatePly p st) = t.ply p (fun j => j == i) st := by
  have slot (x : Slot) : Slot.modifyOpen i (fun r => r.updatePly p st) x
      = Slot.rewrite (fun r => r.state == .opened && r.index == i) (fun r => r.updatePly p st) x := by
    cases x with
    | trace _ => rfl
    | record r => simp [Slot.modifyOpen, Slot.rewrite, and_comm]
  exact congrArg (fun f => { t with slots := t.slots.map f }) (funext slot)

theorem SetTable.ply_none (t : SetTable) (p : Ply) (st : PlyStatus) : t.ply p (fun _ => false) st = t := by
  have slot (x : Slot) : Slot.rewrite (fun r => r.state == .opened && false) (fun r => r.updatePly p st) x = id x := by
    cases x <;> simp [Slot.rewrite]
  simp only [SetTable.ply, SetTable.rewrite, funext slot, List.map_id]

/-- The same update made for two groups of sets is made once for both, also for a set in both of them. -/
theorem SetTable.ply_ply (t : SetTable) (p : Ply) (q q' : Nat → Bool) (st : PlyStatus) :
    (t.ply p q st).ply p q' st = t.ply p (fun i => q i || q' i) st := by
  have slot (x : Slot) :
      Slot.rewrite (fun r => r.state == .opened && q' r.index) (fun r => r.updatePly p st)
          (Slot.rewrite (fun r => r.state == .opened && q r.index) (fun r => r.updatePly p st) x)
        = Slot.rewrite (fun r => r.state == .opened && (q r.index || q' r.index)) (fun r => r.updatePly p st) x := by
    cases x with
    | trace _ => rfl
    | record r =>
      simp only [Slot.rewrite, Bool.and_or_distrib_left]
      cases h : (r.state == .opened && q r.index) with
      | false => simp
      | true => simp [SetRecord.updatePly_idem]
  simp only [SetTable.ply, SetTable.rewrite, List.map_map, Function.comp_def, slot]

theorem updatePlies_eq (p : Ply) (is : List Nat) (st : PlyStatus) (s : State) :
    updatePlies p is st s = { s with table := s.table.ply p (fun i => is.any fun j => j == i) st } := by
  induction is generalizing s with
  | nil => simp only [updatePlies, List.foldl_nil, List.any_nil, SetTable.ply_none]
  | cons j js ih =>
    have first : updatePly p j st s = { s with table := s.table.ply p (fun i => j == i) st } := by
      simp only [updatePly, State.mapTable, SetTable.modifyOpen_updatePly, Bool.beq_comm]
    show updatePlies p js st (updatePly p j st s) = _
    rw [ih, first]
    simp only [SetTable.ply_ply, List.any_cons]

/-! ### What each resume leaves -/

/-- The channel's queue is emptied, and the sets of its loads take the update FAULTED (R67, R82). -/
theorem dropLoads_eq (p : Ply) (s : State) : dropLoads p s = { s with
    table := s.table.ply p (fun i => (s.heads.get p).queue.any fun l => l.index == i) .faulted
    heads := s.heads.set p { s.heads.get p with queue := [] } } := by
  simp only [dropLoads, updatePlies_eq, State.mapHead, List.any_map, Function.comp_def]

theorem resumeHead_eq (p : Ply) (s : State) : resumeHead p s = { s with
    table := s.table.ply p (fun i => (s.heads.get p).queue.any fun l => l.index == i) .faulted
    heads := s.heads.set p { s.heads.get p with
      state := if 0 ≤ (s.tracker.marriage.count : Int) - ((s.tracker.heads.get p).delay.getD 0 : Nat)
        then .numbering else .leadIn
      cause := none, code := 0, queue := [] }
    tracker := s.tracker.set (.head p) ((s.tracker.heads.get p).realigned s.tracker.marriage.count)
    control := { s.control with stops := (s.control.stops.put (.headFault p) false).put (.skew p) false } } := by
  simp only [resumeHead, dropLoads_eq, realign, unlatch, State.mapTracker, State.mapHead, State.mapControl,
    Tracker.get, Tracker.set, PerPly.get_set_self, PerPly.set_set, Station.nextIndex, Station.realigned]

theorem resumeReader_eq (s : State) : resumeReader s = { s with
    tracker := { s.tracker with reader := s.tracker.reader.realigned s.tracker.marriage.count }
    reader := { s.reader with state := .reading, queue := [], code := 0 }
    control := { s.control with stops := { s.control.stops with readerFault := false, readerSkew := false } } } := rfl

theorem resumeGate_eq (s : State) : resumeGate s = { s with
    tracker := { s.tracker with gate := s.tracker.gate.realigned s.tracker.marriage.count }
    control := { s.control with stops := { s.control.stops with gateSkew := false } } } := rfl

/-- A realigned station's next index is the marriage count less the station's delay (R10). -/
theorem Station.nextIndex_realigned (x : Station) (n : Nat) :
    (x.realigned n).nextIndex = (n : Int) - (x.delay.getD 0 : Nat) := rfl

/-! ### The plies' numbers -/

@[simp] theorem Ply.ofNumber_number (p : Ply) : Ply.ofNumber p.number = some p := by cases p <;> rfl

theorem Ply.ofNumber_eq_none {n : Nat} (h : n = 0 ∨ 6 < n) : Ply.ofNumber n = none := by
  rcases h with rfl | h
  · rfl
  · obtain ⟨m, rfl⟩ : ∃ m, n = m + 7 := ⟨n - 7, by omega⟩
    rfl

/-! ### What the owners answer -/

theorem answerHeadResume_range {b : Byte} (s : State) (h : b = 0 ∨ 6 < b.toNat) :
    answerHeadResume [b] s = refuse .range s := by
  have hn : Ply.ofNumber (u8 [b] 0) = none := Ply.ofNumber_eq_none (h.imp_left fun h => by rw [h]; rfl)
  simp only [answerHeadResume, hn]

theorem answerHeadResume_of_number {b : Byte} {p : Ply} (s : State) (h : b.toNat = p.number) :
    answerHeadResume [b] s =
      if (s.heads.get p).state = .faulted ∧ s.jobState.inRun = true then
        okWith (byte ((resumeHead p s).heads.get p).state.code
          :: beSigned40 ((resumeHead p s).tracker.heads.get p).nextIndex) (resumeHead p s)
      else refuse .state s := by
  have hn : Ply.ofNumber (u8 [b] 0) = some p := (congrArg Ply.ofNumber h).trans (Ply.ofNumber_number p)
  simp only [answerHeadResume, hn]

/-- A request that needs no supervisor: its answer is that of its owner, and what the owner leaves is the next state but
for the reply and the receiver, which hunts again. -/
theorem answers_of_answer {k : RequestKind} {pl out : List Byte} (tag : Byte) {s t : State} (hs : s.ready = true)
    (hf : formatOk k pl = true) (hk : supervisorOnly k = false)
    (ha : answer k pl s.atOwner = ({ t with rxControl := .hunting }, out)) :
    Answers (Instr.ofRequest k tag pl) s t (replyTo k tag out) := by
  rw [Answers, exec_ofRequest]
  exact onRequest_ready (s' := { t with rxControl := .hunting }) hs ((takeRequest_admitted tag hf hk).trans ha) rfl

/-! ### The resumes at the link -/

theorem headResume_refuses (tag : Byte) {b : Byte} {s : State} (hs : s.ready = true) {st : Status}
    (h : answerHeadResume [b] s.atOwner = refuse st s.atOwner) :
    AnswersOnly (.headResume tag [b]) s (replyTo .headResume tag st.only) :=
  answersOnly_of_answer (k := .headResume) tag hs rfl rfl h

/-- R82, accepted: the answer is the state the channel enters and the index of its station's next cue. -/
theorem headResume_resumes (tag : Byte) {b : Byte} {p : Ply} {s : State} (hs : s.ready = true)
    (hb : b.toNat = p.number) (hf : (s.heads.get p).state = .faulted) (hr : s.jobState.inRun = true) :
    Answers (.headResume tag [b]) s (resumeHead p (openJournal s)) (replyTo .headResume tag
      (Status.ok.byte :: byte ((resumeHead p (openJournal s)).heads.get p).state.code
        :: beSigned40 ((resumeHead p (openJournal s)).tracker.heads.get p).nextIndex)) := by
  have accepted : (s.atOwner.heads.get p).state = .faulted ∧ s.atOwner.jobState.inRun = true := ⟨hf, hr⟩
  refine answers_of_answer (k := .headResume) tag hs rfl rfl ?_
  show answerHeadResume [b] s.atOwner = _
  rw [answerHeadResume_of_number _ hb, if_pos accepted, resumeHead_eq, resumeHead_eq]
  rfl

theorem readerResume_refuses (tag : Byte) {s : State} (hs : s.ready = true)
    (h : s.jobState.inRun = false ∨ s.reader.state.suspended = false) :
    AnswersOnly (.readerResume tag []) s (replyTo .readerResume tag Status.state.only) := by
  have refused : ¬ (s.atOwner.jobState.inRun = true ∧ s.atOwner.reader.state.suspended = true) :=
    not_and_of_not_or_not (h.imp Bool.eq_false_iff.mp Bool.eq_false_iff.mp)
  exact answersOnly_of_answer (k := .readerResume) tag hs rfl rfl (if_neg refused)

theorem readerResume_resumes (tag : Byte) {s : State} (hs : s.ready = true) (hr : s.jobState.inRun = true)
    (hu : s.reader.state.suspended = true) :
    Answers (.readerResume tag []) s (resumeReader (openJournal s)) (replyTo .readerResume tag
      (Status.ok.byte :: beSigned40 (resumeReader (openJournal s)).tracker.reader.nextIndex)) := by
  have accepted : s.atOwner.jobState.inRun = true ∧ s.atOwner.reader.state.suspended = true := ⟨hr, hu⟩
  exact answers_of_answer (k := .readerResume) tag hs rfl rfl (if_pos accepted)

theorem gateResume_refuses (tag : Byte) {s : State} (hs : s.ready = true)
    (h : s.jobState.inRun = false ∨ s.tracker.gate.state ≠ .skewed) :
    AnswersOnly (.gateResume tag []) s (replyTo .gateResume tag Status.state.only) := by
  have refused : ¬ (s.atOwner.jobState.inRun = true ∧ s.atOwner.tracker.gate.state = .skewed) :=
    not_and_of_not_or_not (h.imp_left Bool.eq_false_iff.mp)
  exact answersOnly_of_answer (k := .gateResume) tag hs rfl rfl (if_neg refused)

theorem gateResume_resumes (tag : Byte) {s : State} (hs : s.ready = true) (hr : s.jobState.inRun = true)
    (hk : s.tracker.gate.state = .skewed) :
    Answers (.gateResume tag []) s (resumeGate (openJournal s)) (replyTo .gateResume tag
      (Status.ok.byte :: beSigned40 (resumeGate (openJournal s)).tracker.gate.nextIndex)) := by
  have accepted : s.atOwner.jobState.inRun = true ∧ s.atOwner.tracker.gate.state = .skewed := ⟨hr, hk⟩
  exact answers_of_answer (k := .gateResume) tag hs rfl rfl (if_pos accepted)

/-- Settles O58: each request meets the one test of its rule; past it the owner's resume gives the whole next state, and
the answered index is that of the realigned station. -/
theorem resumesReturnToService : Obligations.ResumesReturnToService := by
  refine ⟨fun tag b s hs => ⟨fun hb => ?headRange, fun p hb => ⟨fun h => ?headState, fun hf hr => ?head⟩⟩,
    fun tag s hs => ⟨fun h => ?readerState, fun hr hu => ?reader⟩,
    fun tag s hs => ⟨fun h => ?gateState, fun hr hk => ?gate⟩⟩
  case headRange => exact headResume_refuses tag hs (answerHeadResume_range _ hb)
  case headState =>
    have refused : ¬ ((s.atOwner.heads.get p).state = .faulted ∧ s.atOwner.jobState.inRun = true) :=
      not_and_of_not_or_not (h.imp_right Bool.eq_false_iff.mp)
    exact headResume_refuses tag hs ((answerHeadResume_of_number _ hb).trans (if_neg refused))
  case head =>
    have resumed := headResume_resumes tag hs hb hf hr
    simp only [resumeHead_eq, Tracker.set, PerPly.get_set_self, Station.nextIndex_realigned] at resumed
    exact resumed
  case readerState => exact readerResume_refuses tag hs h
  case reader =>
    have resumed := readerResume_resumes tag hs hr hu
    rw [resumeReader_eq] at resumed
    exact resumed
  case gateState => exact gateResume_refuses tag hs h
  case gate =>
    have resumed := gateResume_resumes tag hs hr hk
    rw [resumeGate_eq] at resumed
    exact resumed

end Sys2Proof.Machine

/-! The events of a station and of the reader (R1 to R4, R91, R93 to R98): what a cue that counts leaves of the tracker,
what the reader does at its cue, and how a RESULT is read, compared and taken into the OPEN record. -/

namespace Sys2Proof.Machine
open Sys2Proof

/-! ### An event of a live part -/

theorem becomes_of_onEvent {c : Instr} {f : State → State} {s : State} (hlive : s.live = true)
    (hc : exec c s = onEvent f s) : Becomes c s (f (openJournal s)) := by
  simp only [Becomes, hc, onEvent, taken, hlive, if_true]

/-! ### A cue that counts (R1, R2, R4) -/

section
variable {x : StationId} {i : Int} {s : State}

theorem CueCarries.inJob (h : CueCarries x i s) : s.inJob x = true := by
  obtain ⟨-, hrun, hhead, -, -⟩ := h
  cases x with
  | head p =>
    obtain ⟨hengaged, hfitted⟩ := hhead p rfl
    simp [State.inJob, hrun, hengaged, hfitted]
  | marriage | reader | gate => exact hrun

theorem CueCarries.not_held (h : CueCarries x i s) : (s.tracker.get x).held = false := by
  obtain ⟨-, -, -, hcount, -⟩ := h
  exact decide_eq_false (Nat.not_le_of_lt hcount)

theorem CueCarries.cueIndex_eq (h : CueCarries x i s) : (s.tracker.get x).cueIndex = i := by
  have hheld := h.not_held
  obtain ⟨-, -, -, -, rfl⟩ := h
  simp only [Station.cueIndex, Station.indexAt, hheld, Bool.false_eq_true, if_false]
  omega

theorem CueCarries.countCue_eq (h : CueCarries x i s) :
    countCue x (openJournal s) = { openJournal s with tracker := s.cued x } := by
  have hcounted : (s.tracker.get x).counted = { s.tracker.get x with count := (s.tracker.get x).count + 1 } := by
    simp only [Station.counted, h.not_held, Bool.false_eq_true, if_false]
  simp only [countCue, State.mapTracker, openJournal_tracker, hcounted, State.cued]

end

/-- A cue at a station whose count is held leaves the tracker as it is (R2). -/
theorem countCue_of_held {x : StationId} {s : State} (h : (s.tracker.get x).held = true) : countCue x s = s := by
  have hset : s.tracker.set x (s.tracker.get x) = s.tracker := by
    cases x with
    | head p => simp [Tracker.set, Tracker.get]
    | marriage | reader | gate => rfl
  simp only [countCue, State.mapTracker, Station.counted, h, if_true, hset]

/-! ### The reader at its cue (R91) -/

section
variable {i : Int} {held : Bool} {s : State}

theorem readerUnitCue_suspended (h : s.reader.state.suspended = true) : readerUnitCue i held s = s := by
  cases hst : s.reader.state with
  | reading => simp [hst, ReaderState.suspended] at h
  | idle | lagging | faulted | skewed => simp only [readerUnitCue, hst]

theorem readerUnitCue_queues (h : s.reader.state = .reading) (hroom : s.reader.queue.length < 4) :
    readerUnitCue i false s
      = { s with reader := { s.reader with queue := s.reader.queue ++ [entryFor i (s.lookupInt i)] } } := by
  have hsize : ¬ Config.readerQueueSize ≤ s.reader.queue.length := Nat.not_le_of_lt hroom
  simp [readerUnitCue, h, hsize, State.mapReader]

theorem readerUnitCue_lags (h : s.reader.state = .reading) (hfull : held = true ∨ 4 ≤ s.reader.queue.length) :
    readerUnitCue i held s
      = latch .readerFault { s with reader := { s.reader with state := .lagging, queue := [] } } := by
  have hsuspends : (held || decide (Config.readerQueueSize ≤ s.reader.queue.length)) = true :=
    (Bool.or_eq_true _ _).mpr (hfull.imp_right decide_eq_true)
  simp only [readerUnitCue, h, hsuspends, if_true, suspendReader, State.mapReader]

end

/-- No set has an index below 0, so the lookup answers None and the entry is BLANK (R52, R91). -/
theorem entryFor_lookupInt_neg {i : Int} (h : i < 0) (s : State) :
    entryFor i (s.lookupInt i) = ⟨i, .blank, none⟩ := by
  cases i with
  | ofNat n => exact absurd h (by simp)
  | negSucc n => rfl

theorem lookupInt_of_nonneg {i : Int} (h : 0 ≤ i) (s : State) : s.lookupInt i = s.lookup i.toNat := by
  cases i with
  | ofNat n => rfl
  | negSucc n => exact absurd h (by simp)

/-- A reader cue that counts is the unit's cue with the index that it carries. -/
theorem CueCarries.readerCue_becomes {i : Int} {s t : State} (h : CueCarries .reader i s)
    (ht : readerUnitCue i false { openJournal s with tracker := s.cued .reader } = t) : Becomes .readerCue s t := by
  have hjob : (openJournal s).inJob .reader = true := h.inJob
  have hindex : (openJournal s).tracker.reader.cueIndex = i := h.cueIndex_eq
  have hheld : (openJournal s).tracker.reader.held = false := h.not_held
  have cue := becomes_of_onEvent (c := .readerCue) (f := readerCue) h.1 rfl
  rwa [readerCue, if_pos hjob, hindex, hheld, h.countCue_eq, ht] at cue

/-- Settles O38: the cue counts at V and goes to the unit with its index, where the state of the reader and the room in
its queue decide; a held count reaches the unit as a cue that suspends. -/
theorem readerCueQueuesAnEntry : Obligations.ReaderCueQueuesAnEntry := by
  refine ⟨fun i s hcue => ⟨fun hsusp => ?suspended, fun hread hroom => ?queues, fun hread hfull => ?lags⟩,
    fun s hlive hrun htop hread => ?held⟩
  case suspended => exact hcue.readerCue_becomes (readerUnitCue_suspended hsusp)
  case queues =>
    have cue := hcue.readerCue_becomes (readerUnitCue_queues hread hroom)
    by_cases hneg : i < 0
    · rw [entryFor_lookupInt_neg hneg] at cue
      rwa [if_pos hneg]
    · rw [lookupInt_of_nonneg (Int.not_lt.mp hneg)] at cue
      rw [if_neg hneg]
      exact cue
  case lags => exact hcue.readerCue_becomes (readerUnitCue_lags hread (.inr hfull))
  case held =>
    have hheld : (openJournal s).tracker.reader.held = true := decide_eq_true htop
    have hjob : (openJournal s).inJob .reader = true := hrun
    have cue := becomes_of_onEvent (c := .readerCue) (f := readerCue) hlive rfl
    rwa [readerCue, if_pos hjob, hheld, countCue_of_held (x := .reader) hheld,
      readerUnitCue_lags (s := openJournal s) hread (.inl rfl)] at cue

/-! ### Where two strings first differ (R94) -/

@[simp] theorem firstDifference_self (pos : Nat) (as : List Byte) : firstDifference pos as as = none := by
  induction as generalizing pos with
  | nil => rfl
  | cons a as ih => simp only [firstDifference, if_true, ih]

theorem firstDifference_eq_some {as bs : List Byte} {n : Nat} (pos : Nat) (hsame : ∀ k, k < n → as[k]? = bs[k]?)
    (hdiff : as[n]? ≠ bs[n]?) : firstDifference pos as bs = some (pos + n) := by
  induction n generalizing pos as bs with
  | zero =>
    match as, bs with
    | [], [] => exact absurd rfl hdiff
    | [], _ :: _ | _ :: _, [] => rfl
    | a :: as, b :: bs =>
      have hab : a ≠ b := fun e => hdiff (by simp [e])
      simp [firstDifference, hab]
  | succ n ih =>
    have hhead := hsame 0 (Nat.succ_pos n)
    match as, bs with
    | [], [] => exact absurd rfl hdiff
    | [], _ :: _ | _ :: _, [] => simp at hhead
    | a :: as, b :: bs =>
      have hab : a = b := by simpa using hhead
      have rest := ih (as := as) (bs := bs) (pos + 1) (fun k hk => by simpa using hsame (k + 1) (by omega))
        (by simpa using hdiff)
      simp only [firstDifference, hab, if_true, rest]
      congr 1
      omega

/-! ### One lane and its slip class (R94, R95) -/

section
variable {s : State} {i : Int} {ns : List Num} {lane : Nat} {str : List Byte}

theorem readsNeighbour_iff : s.readsNeighbour i lane str = true ↔
    ∃ ms, (s.lookupInt i).heldNumbers = some ms ∧ str = s.plyOneString ms lane := by
  cases h : (s.lookupInt i).heldNumbers <;> simp [State.readsNeighbour, h]

theorem slipClass_behind (h : s.readsNeighbour (i - 1) lane str = true) : s.slipClass i lane str = .slipBehind := by
  rw [State.slipClass, if_pos h]

theorem slipClass_ahead (hb : ¬ s.readsNeighbour (i - 1) lane str = true)
    (ha : s.readsNeighbour (i + 1) lane str = true) : s.slipClass i lane str = .slipAhead := by
  rw [State.slipClass, if_neg hb, if_pos ha]

theorem slipClass_digits (hb : ¬ s.readsNeighbour (i - 1) lane str = true)
    (ha : ¬ s.readsNeighbour (i + 1) lane str = true) : s.slipClass i lane str = .digits := by
  rw [State.slipClass, if_neg hb, if_neg ha]

theorem laneOutcome_matched (h : str = s.plyOneString ns lane) : s.laneOutcome i ns lane (some str) = .matched := by
  simp only [State.laneOutcome, ← h, firstDifference_self]

theorem laneOutcome_mismatch {pos : Nat} (hsame : ∀ k, k < pos → str[k]? = (s.plyOneString ns lane)[k]?)
    (hdiff : str[pos]? ≠ (s.plyOneString ns lane)[pos]?) :
    s.laneOutcome i ns lane (some str) = .mismatch lane (pos + 1) (s.slipClass i lane str) := by
  simp only [State.laneOutcome, firstDifference_eq_some 1 hsame hdiff, Nat.add_comm 1 pos]

end

/-! ### The set's result, the worst of its masked lanes (R96) -/

theorem maskedOutcomes_eq (s : State) (i : Int) (ns : List Num) (lane : Nat) (es : List LaneEntry) :
    s.maskedOutcomes i ns lane es = (List.range es.length).filterMap fun k =>
      if s.policy.mask.has (k + lane) then es[k]?.map fun e => s.laneOutcome i ns (k + lane) e else none := by
  induction es generalizing lane with
  | nil => rfl
  | cons e es ih =>
    have shift (k : Nat) : k + 1 + lane = k + (lane + 1) := by omega
    rw [List.length_cons, List.range_succ_eq_map, List.filterMap_cons, List.filterMap_map]
    simp only [Function.comp_def, Nat.succ_eq_add_one, List.getElem?_cons_succ, List.getElem?_cons_zero, Nat.zero_add,
      Option.map_some, shift, ← ih, State.maskedOutcomes]
    split <;> rfl

/-- A result that is no mismatch. -/
def Verification.Clean (v : Verification) : Prop := v = .matched ∨ v = .noread

/-- Of two results that are no mismatch the worse is NOREAD where one of them is. -/
theorem worse_clean {a b : Verification} (ha : a.Clean) (hb : b.Clean) :
    (worse a b).Clean ∧ (worse a b = .noread ↔ a = .noread ∨ b = .noread) := by
  rcases ha with rfl | rfl <;> rcases hb with rfl | rfl <;> simp [worse, Verification.Clean]

theorem foldl_worse_mismatch (l p : Nat) (cls : SlipClass) (vs : List Verification) :
    vs.foldl worse (.mismatch l p cls) = .mismatch l p cls := by
  induction vs with
  | nil => rfl
  | cons v vs ih => exact ih

theorem foldl_worse_clean {acc : Verification} {vs : List Verification} (hacc : acc.Clean) (h : ∀ v ∈ vs, v.Clean) :
    vs.foldl worse acc = if .noread ∈ acc :: vs then .noread else .matched := by
  induction vs generalizing acc with
  | nil => rcases hacc with rfl | rfl <;> simp
  | cons v vs ih =>
    obtain ⟨hv, hvs⟩ := List.forall_mem_cons.mp h
    obtain ⟨hclean, hnoread⟩ := worse_clean hacc hv
    rw [List.foldl_cons, ih hclean hvs]
    simp only [List.mem_cons, eq_comm (a := Verification.noread), hnoread, or_assoc]

/-- Of several mismatches the first one stands, whatever matches or is not read before it. -/
theorem foldl_worse_first_mismatch {acc : Verification} {before : List Verification} (hacc : acc.Clean)
    (h : ∀ v ∈ before, v.Clean) (l p : Nat) (cls : SlipClass) (after : List Verification) :
    (before ++ .mismatch l p cls :: after).foldl worse acc = .mismatch l p cls := by
  induction before generalizing acc with
  | nil =>
    have taken : worse acc (.mismatch l p cls) = .mismatch l p cls := by rcases hacc with rfl | rfl <;> rfl
    rw [List.nil_append, List.foldl_cons, taken, foldl_worse_mismatch]
  | cons v vs ih =>
    obtain ⟨hv, hvs⟩ := List.forall_mem_cons.mp h
    exact ih (worse_clean hacc hv).1 hvs

theorem setResult_mismatch {s : State} {i : Int} {ns : List Num} {lanes : List LaneEntry}
    {before after : List Verification} {l p : Nat} {cls : SlipClass}
    (houts : s.maskedOutcomes i ns 1 lanes = before ++ .mismatch l p cls :: after) (h : ∀ v ∈ before, v.Clean) :
    s.setResult i ns lanes = .mismatch l p cls := by
  rw [State.setResult, houts, foldl_worse_first_mismatch (.inl rfl) h]

theorem setResult_clean {s : State} {i : Int} {ns : List Num} {lanes : List LaneEntry}
    (h : ∀ v ∈ s.maskedOutcomes i ns 1 lanes, v.Clean) :
    s.setResult i ns lanes = if .noread ∈ s.maskedOutcomes i ns 1 lanes then .noread else .matched := by
  rw [State.setResult, foldl_worse_clean (.inl rfl) h]
  simp

/-- A comparison looks at the accounting memory and at the set table alone. -/
theorem setResult_congr {s t : State} (hacct : t.acct = s.acct) (htable : t.table = s.table) (i : Int)
    (ns : List Num) (lanes : List LaneEntry) : t.setResult i ns lanes = s.setResult i ns lanes := by
  have lookups : t.lookupInt = s.lookupInt := by
    funext j
    cases j <;> simp only [State.lookupInt, State.lookup, State.rowAt, hacct, htable]
  have strings : t.plyOneString = s.plyOneString := by
    funext ms lane
    simp only [State.plyOneString, State.scheme, hacct]
  have neighbours : t.readsNeighbour = s.readsNeighbour := by
    funext j lane str
    simp only [State.readsNeighbour, lookups, strings]
  have outcomes : t.laneOutcome = s.laneOutcome := by
    funext j ms lane e
    simp only [State.laneOutcome, State.slipClass, neighbours, strings]
  have policies : t.policy = s.policy := congrArg (fun a => a.job.policy) hacct
  simp only [State.setResult, maskedOutcomes_eq, outcomes, policies]

/-! ### The bytes of a RESULT (R89, R198) -/

/-- The bytes of one lane's entry. -/
def laneBytes (e : LaneEntry) : List Byte :=
  match e with
  | none => [0xFF]
  | some str => byte str.length :: str

theorem resultPayload_eq (lanes : List LaneEntry) :
    resultPayload lanes = byte lanes.length :: (lanes.map laneBytes).flatten := rfl

theorem walkLanes_laneBytes {lanes : List LaneEntry}
    (h : ∀ str, some str ∈ lanes → str.length ≤ 16 ∧ ∀ b ∈ str, 0x20 ≤ b.toNat ∧ b.toNat ≤ 0x7E) :
    walkLanes lanes.length (lanes.map laneBytes).flatten = some lanes := by
  induction lanes with
  | nil => rfl
  | cons e es ih =>
    have rest := ih fun str hstr => h str (List.mem_cons_of_mem e hstr)
    cases e with
    | none => simp [walkLanes, laneBytes, rest]
    | some str =>
      obtain ⟨hlen, hchars⟩ := h str List.mem_cons_self
      have hnat : (byte str.length).toNat = str.length := by rw [toNat_byte]; omega
      have hread : byte str.length ≠ 0xFF#8 := by
        intro heq
        have hvalue : str.length = 255 := hnat.symm.trans (congrArg BitVec.toNat heq)
        omega
      have hprint : str.all printable = true := by
        simpa [printable, List.all_eq_true] using hchars
      simp [walkLanes, laneBytes, hread, hnat, hlen, hprint, rest]

theorem ofFrame_resultPayload {s : State} {lanes : List LaneEntry} (h : s.resultOk lanes) :
    ReaderMessage.ofFrame s.scheme.lanes 0xD1#8 (resultPayload lanes) = some (.result lanes) := by
  obtain ⟨hlanes, hlt, hentries⟩ := h
  have hcount : (byte lanes.length).toNat = lanes.length := by rw [toNat_byte]; omega
  simp [resultPayload_eq, ReaderMessage.ofFrame, hcount, ← hlanes, walkLanes_laneBytes hentries]

/-! ### A RESULT for an OPEN record (R93, R96, R98) -/

theorem result_becomes {lanes : List LaneEntry} {s t : State} (hlive : s.live = true) (h : s.resultOk lanes)
    (ht : takeResult lanes { openJournal s with rxReader := .hunting } = t) :
    Becomes (.result (resultPayload lanes)) s t := by
  have message : readerFrameWhole 0xD1#8 (resultPayload lanes) (openJournal s) = t := by
    have read : ReaderMessage.ofFrame ({ openJournal s with rxReader := .hunting } : State).scheme.lanes 0xD1#8
        (resultPayload lanes) = some (.result lanes) := ofFrame_resultPayload h
    simp only [readerFrameWhole, readerMessage, read, ht]
  exact message ▸ becomes_of_onEvent (c := .result (resultPayload lanes)) hlive rfl

theorem takeResult_reading {lanes : List LaneEntry} {s : State} {e : ReaderEntry} {rest : List ReaderEntry}
    (hread : s.reader.state = .reading) (hqueue : s.reader.queue = e :: rest) :
    takeResult lanes s = resolveEntry e lanes { s with reader := { s.reader with queue := rest } } := by
  simp only [takeResult, hread, hqueue, State.mapReader]

theorem lookup_of_openAt {s : State} {i : Nat} {r : SetRecord} (h : s.table.openAt i = some r) :
    s.lookup i = .opened r := by
  cases hrec : s.table.recordAt i with
  | none => simp [SetTable.openAt, hrec] at h
  | some x =>
    obtain ⟨hopen, rfl⟩ : x.state = .opened ∧ x = r := by simpa [SetTable.openAt, hrec] using h
    simp only [State.lookup, hrec, hopen, if_true]

theorem resolveEntry_opened {lanes : List LaneEntry} {s : State} {e : ReaderEntry} {i : Nat} {r : SetRecord}
    (hkind : e.kind = .set) (hnote : e.note = none) (hindex : e.index = i) (hverify : s.policy.verify = true)
    (hopen : s.table.openAt i = some r) : resolveEntry e lanes s = applyResult i r lanes s := by
  have hindex' : e.index = Int.ofNat i := hindex
  simp only [resolveEntry, hkind, hindex', hnote, lookup_of_openAt hopen, hverify, if_true]

theorem SetTable.modifyOpen_eq_rewrite (t : SetTable) (i : Nat) (f : SetRecord → SetRecord) :
    t.modifyOpen i f = t.rewrite (fun r => r.state == .opened && r.index == i) f := by
  have slot (x : Slot) : Slot.modifyOpen i f x
      = Slot.rewrite (fun r => r.state == .opened && r.index == i) f x := by
    cases x with
    | trace _ => rfl
    | record r => simp [Slot.modifyOpen, Slot.rewrite, and_comm]
  simp only [SetTable.modifyOpen, SetTable.rewrite, funext slot]

theorem applyResult_eq {i : Nat} {r : SetRecord} {lanes : List LaneEntry} {s : State} {v : Verification}
    (hv : s.setResult i r.numbers lanes = v) :
    applyResult i r lanes s = readFailEvent v.failure { s with
      table := s.table.rewrite (fun x => x.state == .opened && x.index == i)
        (fun x => { x with verification := x.verification.update v }) } := by
  simp only [applyResult, hv, updateVerification, State.mapTable, SetTable.modifyOpen_eq_rewrite]

theorem takeResult_opened {lanes : List LaneEntry} {s : State} {e : ReaderEntry} {rest : List ReaderEntry} {i : Nat}
    {r : SetRecord} (hread : s.reader.state = .reading) (hverify : s.policy.verify = true)
    (hqueue : s.reader.queue = e :: rest) (hkind : e.kind = .set) (hnote : e.note = none) (hindex : e.index = i)
    (hopen : s.table.openAt i = some r) :
    takeResult lanes s = applyResult i r lanes { s with reader := { s.reader with queue := rest } } := by
  rw [takeResult_reading hread hqueue]
  exact resolveEntry_opened hkind hnote hindex hverify hopen

/-- R93 and R96: the oldest entry leaves the queue, and the result of the comparison goes to its OPEN record and to the
read-fail monitor. -/
theorem result_of_opened {lanes : List LaneEntry} {s : State} {e : ReaderEntry} {rest : List ReaderEntry} {i : Nat}
    {r : SetRecord} (hlive : s.live = true) (hok : s.resultOk lanes) (hread : s.reader.state = .reading)
    (hverify : s.policy.verify = true) (hqueue : s.reader.queue = e :: rest) (hkind : e.kind = .set)
    (hnote : e.note = none) (hindex : e.index = i) (hopen : s.table.openAt i = some r) :
    Becomes (.result (resultPayload lanes)) s
      (readFailEvent (s.setResult i r.numbers lanes).failure { openJournal s with
        rxReader := .hunting, reader := { s.reader with queue := rest }
        table := s.table.rewrite (fun x => x.state == .opened && x.index == i)
          (fun x => { x with verification := x.verification.update (s.setResult i r.numbers lanes) }) }) := by
  refine result_becomes hlive hok ?_
  have taken := takeResult_opened (lanes := lanes) (s := { openJournal s with rxReader := .hunting })
    hread hverify hqueue hkind hnote hindex hopen
  exact taken.trans (applyResult_eq (setResult_congr (by rfl) (by rfl) _ _ _))

/-- Settles O40: a lane by where its string first differs and by its neighbours' strings, the set by the first mismatch
of its masked lanes or else by any lane not read, and the record by the RESULT that carries the comparison. -/
theorem readsAreCompared : Obligations.ReadsAreCompared := by
  intro s i ns
  refine ⟨fun lane => ⟨rfl, fun str => ⟨laneOutcome_matched, fun pos hsame hdiff => ?mismatch⟩⟩,
    fun lanes => ?worst, fun lanes e rest j r => result_of_opened⟩
  case mismatch =>
    refine ⟨_, laneOutcome_mismatch hsame hdiff, fun hb => ?behind, fun hb ha => ?ahead, fun hb ha => ?digits⟩
    case behind => exact slipClass_behind (readsNeighbour_iff.mpr hb)
    case ahead => exact slipClass_ahead (mt readsNeighbour_iff.mp hb) (readsNeighbour_iff.mpr ha)
    case digits => exact slipClass_digits (mt readsNeighbour_iff.mp hb) (mt readsNeighbour_iff.mp ha)
  case worst =>
    simp only [← maskedOutcomes_eq]
    exact ⟨fun before l p cls after houts hbefore => setResult_mismatch houts hbefore, setResult_clean⟩

end Sys2Proof.Machine

/-! The gate's decision (R107, R108): the ply statuses a record holds, and the rows of Table 46 in their order. -/

namespace Sys2Proof.Machine
open Sys2Proof

/-! ### The lowest-numbered ply that is not PRINTED (R108) -/

/-- What the search for an unprinted ply sees of one place of the vector. -/
def unprinted (x : Option PlyStatus) : Option PlyStatus :=
  match x with
  | none => none
  | some st => if st = .printed then none else some st

theorem unprinted_eq_none_iff {x : Option PlyStatus} : unprinted x = none ↔ ∀ st, x = some st → st = .printed := by
  cases x <;> simp [unprinted]

theorem SetRecord.firstUnprinted_eq (r : SetRecord) :
    r.firstUnprinted = Ply.all.findSome? fun p => unprinted (r.plies.get p) := by
  have plies : r.plies.toList = Ply.all.map r.plies.get := rfl
  have search : r.firstUnprinted = r.plies.toList.findSome? unprinted := rfl
  rw [search, plies, List.findSome?_map]
  rfl

theorem Ply.all_split (p : Ply) :
    ∃ before after, Ply.all = before ++ p :: after ∧ ∀ q ∈ before, q.number < p.number := by
  cases p with
  | ply1 => exact ⟨[], _, rfl, by decide⟩
  | ply2 => exact ⟨[.ply1], _, rfl, by decide⟩
  | ply3 => exact ⟨[.ply1, .ply2], _, rfl, by decide⟩
  | ply4 => exact ⟨[.ply1, .ply2, .ply3], _, rfl, by decide⟩
  | ply5 => exact ⟨[.ply1, .ply2, .ply3, .ply4], _, rfl, by decide⟩
  | ply6 => exact ⟨[.ply1, .ply2, .ply3, .ply4, .ply5], _, rfl, by decide⟩

theorem SetRecord.firstUnprinted_eq_none_iff (r : SetRecord) :
    r.firstUnprinted = none ↔ ∀ p st, r.plies.get p = some st → st = .printed := by
  simp only [r.firstUnprinted_eq, List.findSome?_eq_none_iff, unprinted_eq_none_iff, Ply.mem_all, true_implies]

theorem SetRecord.firstUnprinted_eq_some {r : SetRecord} {p : Ply} {st : PlyStatus} (hst : r.plies.get p = some st)
    (hne : st ≠ .printed)
    (hlow : ∀ q, q.number < p.number → r.plies.get q = none ∨ r.plies.get q = some .printed) :
    r.firstUnprinted = some st := by
  obtain ⟨before, after, hall, hbefore⟩ := Ply.all_split p
  have found : unprinted (r.plies.get p) = some st := by simp [unprinted, hst, hne]
  have skipped : ∀ q ∈ before, unprinted (r.plies.get q) = none := fun q hq => by
    rcases hlow q (hbefore q hq) with h | h <;> simp [unprinted, h]
  rw [r.firstUnprinted_eq, hall]
  exact List.findSome?_eq_some_iff.mpr ⟨before, p, after, rfl, found, skipped⟩

/-! ### The rows of Table 46 -/

theorem Verification.cause_eq_none_iff (u : UnverifiedPolicy) (v : Verification) :
    v.cause u = none ↔ v = .matched ∨ v = .off ∨ v = .notYet ∧ u = .deliver := by
  cases v with
  | notYet => cases u <;> simp [Verification.cause]
  | matched | off | noread | mismatch => simp [Verification.cause]

section
variable {skewed : Bool} {u : UnverifiedPolicy} {r : SetRecord}

theorem cullCause_hostCull (h : r.hostCull = true) : cullCause skewed u r = some .hostCull := by
  rw [cullCause, if_pos h]

theorem cullCause_gateSkew (h : r.hostCull = false) : cullCause true u r = some .gateSkew := by
  simp only [cullCause, h, Bool.false_eq_true, if_false, if_true]

theorem cullCause_unprinted {st : PlyStatus} (h : r.hostCull = false) (hp : r.firstUnprinted = some st) :
    cullCause false u r = some st.cause := by
  simp only [cullCause, h, hp, Bool.false_eq_true, if_false]

theorem cullCause_marriageSkew (h : r.hostCull = false) (hp : r.firstUnprinted = none) (hm : r.marriage = .skewed) :
    cullCause false u r = some .marriageSkew := by
  simp only [cullCause, h, hp, hm, Bool.false_eq_true, if_false]

theorem cullCause_unmarried (h : r.hostCull = false) (hp : r.firstUnprinted = none) (hm : r.marriage = .notYet) :
    cullCause false u r = some .unmarried := by
  simp only [cullCause, h, hp, hm, Bool.false_eq_true, if_false]

theorem cullCause_married (h : r.hostCull = false) (hp : r.firstUnprinted = none) (hm : r.marriage = .married) :
    cullCause false u r = r.verification.cause u := by
  simp only [cullCause, h, hp, hm, Bool.false_eq_true, if_false]

/-- R107: a set is delivered exactly where no row of Table 46 applies to it. -/
theorem cullCause_eq_none_iff : cullCause skewed u r = none ↔
    r.hostCull = false ∧ skewed = false ∧ (∀ p st, r.plies.get p = some st → st = .printed) ∧ r.marriage = .married
      ∧ (r.verification = .matched ∨ r.verification = .off ∨ r.verification = .notYet ∧ u = .deliver) := by
  rw [← r.firstUnprinted_eq_none_iff, ← Verification.cause_eq_none_iff u]
  cases hh : r.hostCull with
  | true => simp [cullCause_hostCull hh]
  | false =>
    cases skewed with
    | true => simp [cullCause_gateSkew hh]
    | false =>
      cases hp : r.firstUnprinted with
      | some st => simp [cullCause_unprinted hh hp]
      | none =>
        cases hm : r.marriage with
        | skewed => simp [cullCause_marriageSkew hh hp hm]
        | notYet => simp [cullCause_unmarried hh hp hm]
        | married => simp [cullCause_married hh hp hm]

end

/-- Settles O41: each row of Table 46 is one branch of the decision, taken where every row above it has failed. -/
theorem gateDecidesByTheRanking : Obligations.GateDecidesByTheRanking := by
  intro skewed u r
  refine ⟨cullCause_eq_none_iff, cullCause_hostCull, fun hh => ⟨?gateSkew, ?aligned⟩⟩
  case gateSkew =>
    rintro rfl
    exact cullCause_gateSkew hh
  case aligned =>
    rintro rfl
    refine ⟨fun p st hst hne hlow => ?unprinted, fun hprinted => ?printed⟩
    case unprinted =>
      rw [cullCause_unprinted hh (SetRecord.firstUnprinted_eq_some hst hne hlow)]
      cases st <;> rfl
    case printed =>
      have hp := r.firstUnprinted_eq_none_iff.mpr hprinted
      refine ⟨cullCause_marriageSkew hh hp, cullCause_unmarried hh hp, fun hm => ?_⟩
      rw [cullCause_married hh hp hm]
      refine ⟨fun l p cls hv => ?_, fun hv => ?_, fun hv hu => ?_⟩
      · rw [hv, Verification.cause]
      · rw [hv, Verification.cause]
      · rw [hv, hu, Verification.cause]

end Sys2Proof.Machine

/-! The OPEN records of the set table (R42, R44, R52): where the ring is in its canonical form a lookup finds exactly the
records that stand in slots, and a retirement takes one OPEN record out and leaves the others in their order. -/

namespace Sys2Proof.Machine
open Sys2Proof

/-- The OPEN record in a slot. -/
def Slot.openRecord : Slot → Option SetRecord
  | .record r => if r.state = .opened then some r else none
  | .trace _ => none

/-- The OPEN records in slots, by rising slot number. -/
def SetTable.openRecords (t : SetTable) : List SetRecord := t.slots.filterMap Slot.openRecord

theorem Slot.openRecord_eq_some_iff {x : Slot} {r : SetRecord} :
    x.openRecord = some r ↔ x = .record r ∧ r.state = .opened := by
  cases x with
  | trace u => simp [Slot.openRecord]
  | record y =>
    simp only [Slot.openRecord, Option.ite_none_right_eq_some, Option.some.injEq, Slot.record.injEq]
    constructor
    · rintro ⟨h, rfl⟩; exact ⟨rfl, h⟩
    · rintro ⟨rfl, h⟩; exact ⟨h, rfl⟩

theorem SetTable.openRecords_eq (t : SetTable) :
    t.openRecords = t.records.filter fun r => r.state == .opened := by
  rw [SetTable.records, List.filter_filterMap, SetTable.openRecords]
  refine congrArg (fun f => t.slots.filterMap f) (funext fun x => ?_)
  cases x with
  | trace u => rfl
  | record r => by_cases h : r.state = .opened <;> simp [Slot.openRecord, h, Option.filter]

theorem SetTable.mem_openRecords {t : SetTable} {r : SetRecord} :
    r ∈ t.openRecords ↔ r ∈ t.records ∧ r.state = .opened := by
  simp [t.openRecords_eq]

theorem SetTable.mem_openRecords_iff_slot {t : SetTable} {r : SetRecord} :
    r ∈ t.openRecords ↔ .record r ∈ t.slots ∧ r.state = .opened := by
  rw [SetTable.openRecords, List.mem_filterMap]
  constructor
  · rintro ⟨x, hx, hopen⟩
    obtain ⟨rfl, hstate⟩ := Slot.openRecord_eq_some_iff.mp hopen
    exact ⟨hx, hstate⟩
  · rintro ⟨hr, hstate⟩
    exact ⟨_, hr, Slot.openRecord_eq_some_iff.mpr ⟨rfl, hstate⟩⟩

/-! ### Lookups in the canonical form -/

theorem findSlot_eq_some_iff {xs : List Slot} (h : xs.Pairwise SlotBefore) {k : Nat} {y : Slot} :
    findSlot k xs = some y ↔ y ∈ xs ∧ slotOf y.index = k := by
  induction xs with
  | nil => simp [findSlot]
  | cons x xs ih =>
    have hbefore := fun z (hz : z ∈ xs) => List.rel_of_pairwise_cons h hz
    by_cases hx : slotOf x.index = k
    · have alone : ∀ z ∈ xs, slotOf z.index ≠ k := fun z hz => by
        have := hbefore z hz
        simp only [SlotBefore] at this
        omega
      simp only [findSlot, hx, if_true, Option.some.injEq, List.mem_cons]
      constructor
      · rintro rfl; exact ⟨.inl rfl, hx⟩
      · rintro ⟨rfl | hy, hk⟩
        · rfl
        · exact absurd hk (alone y hy)
    · simp only [findSlot, hx, if_false, ih h.of_cons, List.mem_cons]
      constructor
      · rintro ⟨hy, hk⟩; exact ⟨.inr hy, hk⟩
      · rintro ⟨rfl | hy, hk⟩
        · exact absurd hk hx
        · exact ⟨hy, hk⟩

theorem SetTable.openAt_eq_some_iff {t : SetTable} (h : t.wf = true) {i : Nat} {r : SetRecord} :
    t.openAt i = some r ↔ r ∈ t.openRecords ∧ r.index = i := by
  have found {y : Slot} := findSlot_eq_some_iff (t.wf_iff.mp h) (k := slotOf i) (y := y)
  rw [SetTable.mem_openRecords_iff_slot]
  constructor
  · intro hopen
    cases hslot : findSlot (slotOf i) t.slots with
    | none => simp [SetTable.openAt, SetTable.recordAt, hslot] at hopen
    | some x =>
      cases x with
      | trace u => simp [SetTable.openAt, SetTable.recordAt, hslot] at hopen
      | record y =>
        by_cases hy : y.index = i
        · simp only [SetTable.openAt, SetTable.recordAt, hslot, hy, if_true, Option.ite_none_right_eq_some,
            Option.some.injEq] at hopen
          obtain ⟨hstate, rfl⟩ := hopen
          exact ⟨⟨(found.mp hslot).1, hstate⟩, hy⟩
        · simp [SetTable.openAt, SetTable.recordAt, hslot, hy] at hopen
  · rintro ⟨⟨hmem, hstate⟩, rfl⟩
    simp only [SetTable.openAt, SetTable.recordAt, found.mpr ⟨hmem, rfl⟩, hstate, if_true]

theorem SetTable.openRecords_eq_of_index {t : SetTable} (h : t.wf = true) {r x : SetRecord} (hr : r ∈ t.openRecords)
    (hx : x ∈ t.openRecords) (hi : x.index = r.index) : x = r := by
  have first := (SetTable.openAt_eq_some_iff h).mpr ⟨hx, hi⟩
  rw [(SetTable.openAt_eq_some_iff h).mpr ⟨hr, rfl⟩] at first
  exact (Option.some.inj first).symm

theorem SetTable.openRecords_nodup {t : SetTable} (h : t.wf = true) : t.openRecords.Nodup := by
  refine List.Pairwise.filterMap Slot.openRecord (R := SlotBefore) ?_ (t.wf_iff.mp h)
  intro x y hxy r hr q hq
  obtain ⟨rfl, -⟩ := Slot.openRecord_eq_some_iff.mp hr
  obtain ⟨rfl, -⟩ := Slot.openRecord_eq_some_iff.mp hq
  rintro rfl
  exact Nat.lt_irrefl _ hxy

theorem filter_beq_of_nodup {rs : List SetRecord} {r : SetRecord} (h : rs.Nodup) (hr : r ∈ rs) :
    rs.filter (fun x => x == r) = [r] := by
  induction rs with
  | nil => exact absurd hr List.not_mem_nil
  | cons x xs ih =>
    obtain ⟨hx, hxs⟩ := List.nodup_cons.mp h
    rcases List.mem_cons.mp hr with rfl | hr
    · have others : xs.filter (fun x => x == r) = [] := List.filter_eq_nil_iff.mpr fun y hy hyr =>
        hx (beq_iff_eq.mp hyr ▸ hy)
      simp only [List.filter_cons, beq_self_eq_true, if_true, others]
    · have other : (x == r) = false := beq_eq_false_iff_ne.mpr fun hxr => hx (hxr ▸ hr)
      simp only [List.filter_cons, other, Bool.false_eq_true, if_false, ih hxs hr]

theorem SetTable.openRecords_filter_index {t : SetTable} (h : t.wf = true) {r : SetRecord} (hr : r ∈ t.openRecords) :
    t.openRecords.filter (fun x => x.index == r.index) = [r] := by
  have only : t.openRecords.filter (fun x => x.index == r.index) = t.openRecords.filter (fun x => x == r) := by
    refine List.filter_congr fun x hx => ?_
    rw [Bool.eq_iff_iff, beq_iff_eq, beq_iff_eq]
    exact ⟨SetTable.openRecords_eq_of_index h hr hx, congrArg SetRecord.index⟩
  rw [only, filter_beq_of_nodup (SetTable.openRecords_nodup h) hr]

/-! ### A slot whose OPEN record is retired -/

theorem filterMap_openRecord_putSlot {x : Slot} {r : SetRecord} {xs : List Slot} (h : xs.Pairwise SlotBefore)
    (hr : .record r ∈ xs) (hx : x.index = r.index) (hclosed : x.openRecord = none) :
    (putSlot x xs).filterMap Slot.openRecord
      = (xs.filterMap Slot.openRecord).filter fun y => y.index != r.index := by
  have others {ys : List Slot} (hys : ∀ y ∈ ys, slotOf y.index ≠ slotOf r.index) :
      (ys.filterMap Slot.openRecord).filter (fun y => y.index != r.index) = ys.filterMap Slot.openRecord := by
    refine List.filter_eq_self.mpr fun q hq => ?_
    obtain ⟨y, hy, hyq⟩ := List.mem_filterMap.mp hq
    obtain ⟨rfl, -⟩ := Slot.openRecord_eq_some_iff.mp hyq
    exact bne_iff_ne.mpr fun e => hys _ hy (congrArg slotOf e)
  induction xs with
  | nil => simp at hr
  | cons y ys ih =>
    have hbefore := fun z (hz : z ∈ ys) => List.rel_of_pairwise_cons h hz
    rcases List.mem_cons.mp hr with rfl | hr
    · have later : ∀ z ∈ ys, slotOf z.index ≠ slotOf r.index := fun z hz => (Nat.ne_of_lt (hbefore z hz)).symm
      have hi : x.index = (Slot.record r).index := hx
      have put : putSlot x (.record r :: ys) = x :: ys := by simp [putSlot, hi]
      rw [put, List.filterMap_cons_none hclosed, ← others later]
      by_cases hs : r.state = .opened <;> simp [Slot.openRecord, hs]
    · have hlt : slotOf y.index < slotOf r.index := hbefore _ hr
      have put : putSlot x (y :: ys) = y :: putSlot x ys := by
        rw [← hx] at hlt
        simp [putSlot, Nat.not_lt_of_lt hlt, Nat.ne_of_gt hlt]
      have first := others (ys := [y]) fun z hz => by
        rw [List.mem_singleton.mp hz]
        exact Nat.ne_of_lt hlt
      rw [put, ← List.singleton_append (l := putSlot x ys), ← List.singleton_append (l := ys),
        List.filterMap_append, List.filterMap_append, List.filter_append, first, ih h.of_cons hr]

/-- A slot whose OPEN record gives way to a trace or to a VOID_PENDING record of the same index. -/
theorem SetTable.openRecords_put {t : SetTable} (h : t.wf = true) {r : SetRecord} (hr : r ∈ t.openRecords) {x : Slot}
    (hx : x.index = r.index) (hclosed : x.openRecord = none) :
    (⟨putSlot x t.slots, t.frontier⟩ : SetTable).openRecords = t.openRecords.filter fun y => y.index != r.index :=
  filterMap_openRecord_putSlot (t.wf_iff.mp h) (SetTable.mem_openRecords_iff_slot.mp hr).1 hx hclosed

/-! ### The indices of the OPEN records -/

theorem mem_insertIndex {i j : Nat} {is : List Nat} : j ∈ insertIndex i is ↔ j = i ∨ j ∈ is := by
  induction is with
  | nil => simp [insertIndex]
  | cons k ks ih =>
    simp only [insertIndex]
    split
    · simp
    · simp only [List.mem_cons, ih]
      exact or_left_comm

theorem mem_sortIndices {j : Nat} {is : List Nat} : j ∈ sortIndices is ↔ j ∈ is := by
  induction is with
  | nil => simp [sortIndices]
  | cons k ks ih => rw [sortIndices, List.foldr_cons, mem_insertIndex, ← sortIndices, ih, List.mem_cons]

theorem SetTable.mem_openIndices {t : SetTable} {j : Nat} :
    j ∈ t.openIndices ↔ ∃ r ∈ t.openRecords, r.index = j := by
  rw [SetTable.openIndices, mem_sortIndices, ← SetTable.openRecords_eq, List.mem_map]

end Sys2Proof.Machine

/-! What a retirement reads and writes (R56, R57, R107 to R113): the account of a state, which the bundle, the reports,
the marks and the run monitors leave alone, and what each operation of a retirement does to it. -/

namespace Sys2Proof.Machine
open Sys2Proof

/-- The holders of voided, held and remade numbers, with the job by whose policy a culled set's numbers go to them
(Table 51, R111, R112). -/
structure Holders where
  job : JobDef
  voids : List VoidRecord
  rows : List PendingRow
  nextEntry : Nat
  register : List RemakeEntry

/-- The parts of a state in which a retirement shows: the holders of numbers, the counts of retired sets, the set table,
and what stands while the job runs. -/
structure Books where
  holders : Holders
  setsCulled : Counter
  setsDelivered : Counter
  inRun : Bool
  tracker : Tracker
  divert : Bool
  table : SetTable

/-- The holders of numbers of a state. -/
def State.holders (s : State) : Holders where
  job := s.acct.job
  voids := s.acct.log.records
  rows := s.acct.rows
  nextEntry := s.acct.nextEntry
  register := s.acct.register

/-- The account of a state. -/
def State.books (s : State) : Books where
  holders := s.holders
  setsCulled := s.acct.counters.setsCulled
  setsDelivered := s.acct.counters.setsDelivered
  inRun := s.jobState.inRun
  tracker := s.tracker
  divert := s.gate.divert
  table := s.table

theorem State.books_congr {s t : State} (hacct : t.acct = s.acct) (htracker : t.tracker = s.tracker)
    (hdivert : t.gate.divert = s.gate.divert) (htable : t.table = s.table) : t.books = s.books := by
  simp only [State.books, State.holders, State.jobState, hacct, htracker, hdivert, htable]

/-! ### Operations that leave the account alone -/

@[simp] theorem endWrite_books (s : State) : (endWrite s).books = s.books := rfl
@[simp] theorem raiseReport_books (r : Report) (s : State) : (raiseReport r s).books = s.books := rfl
@[simp] theorem addException_books (e : BundleException) (s : State) : (addException e s).books = s.books := rfl
@[simp] theorem mapBundle_books (f : OpenBundle → OpenBundle) (s : State) : (mapBundle f s).books = s.books := rfl
@[simp] theorem completeClose_books (b : OpenBundle) (r : CloseReason) (s : State) :
    (completeClose b r s).books = s.books := rfl

@[simp] theorem reachClose_books (b : OpenBundle) (r : CloseReason) (s : State) :
    (reachClose b r s).books = s.books := by
  simp only [reachClose]
  split <;> rfl

@[simp] theorem closeAtRetirement_books (delivered appended : Bool) (s : State) :
    (closeAtRetirement delivered appended s).books = s.books := by
  simp only [closeAtRetirement]
  (repeat' split) <;> simp only [completeClose_books, reachClose_books]

/-- A hold cause turns a run into HOLD, which is in the run too (R157). -/
@[simp] theorem raiseHold_books (c : HoldCause) (s : State) : (raiseHold c s).books = s.books := by
  cases h : s.jobState with
  | running | draining =>
    simp only [raiseHold, h, changeJob, raiseReport_books]
    simp only [State.books, h]
    rfl
  | idle | loaded | complete | aborted | recovery | resumable => simp only [raiseHold, h]
  | hold =>
    simp only [raiseHold, h]
    rfl

@[simp] theorem reportFull_books (wasFull : Bool) (s : State) : (reportFull wasFull s).books = s.books := by
  simp only [reportFull]
  split <;> simp only [endWrite_books, raiseHold_books]

@[simp] theorem noteRetirement_books (i : Nat) (n : RetireNote) (s : State) :
    (noteRetirement i n s).books = s.books := State.books_congr (by simp) (by simp) (by simp) (by simp)

@[simp] theorem spoilEvent_books (failure : Bool) (s : State) : (spoilEvent failure s).books = s.books := by
  have divert : (spoilEvent failure s).gate.divert = s.gate.divert := by
    simp only [spoilEvent]
    (repeat' split) <;> simp
  exact State.books_congr (by simp) (by simp) divert (by simp)

theorem Header.settleJumps_jobState (c : Scheme) (h : Header) : (h.settleJumps c).jobState = h.jobState := by
  simp only [Header.settleJumps]
  split <;> rfl

@[simp] theorem moveRetired_books (ns : List Num) (s : State) : (moveRetired ns s).books = s.books := by
  simp only [State.books, State.holders, State.jobState, moveRetired, State.mapHeader_acct, Header.settleJumps_jobState,
    State.mapHeader_tracker, State.mapHeader_gate, State.mapHeader_table]

/-! ### Operations that write the account -/

@[simp] theorem mapTable_books (f : SetTable → SetTable) (s : State) :
    (s.mapTable f).books = { s.books with table := f s.table } := rfl

@[simp] theorem setDivert_books (b : Bool) (s : State) : (setDivert b s).books = { s.books with divert := b } := rfl

@[simp] theorem removeEntry_books (k : Nat) (s : State) :
    (removeEntry k s).books = { s.books with holders := { s.books.holders with
      register := s.books.holders.register.filter fun e => e.number != k } } := rfl

@[simp] theorem appendLog_books (rs : List VoidRecord) (s : State) :
    (appendLog rs s).books = { s.books with holders := { s.holders with voids := s.holders.voids ++ rs } } := by
  simp only [appendLog]
  split <;> rfl

@[simp] theorem writeVoids_books (inform : Bool) (rs : List VoidRecord) (s : State) :
    (writeVoids inform rs s).books = { s.books with holders := { s.holders with voids := s.holders.voids ++ rs } } := by
  have counted (k : Nat) (u : State) : (countVoided k u).books = u.books := rfl
  simp only [writeVoids, counted, appendVoids]
  split <;> simp only [raiseHold_books, appendLog_books]

/-- The completion check lets the account stand, or the job is then out of the run with its stations inactive and DIVERT
asserted (R161). -/
theorem completionCheck_books (s : State) : (completionCheck s).books = s.books
    ∨ (completionCheck s).books = { s.books with inRun := false, tracker := s.tracker.leaveJob, divert := true } := by
  have completes (u : State) (hu : u.books = s.books) (ht : u.tracker = s.tracker) :
      (endWrite (enterComplete u)).books
        = { s.books with inRun := false, tracker := s.tracker.leaveJob, divert := true } := by
    rw [← hu, ← ht]
    rfl
  simp only [completionCheck]
  split
  · split
    · exact .inr (completes s rfl rfl)
    · split
      · exact .inl rfl
      · split
        · exact .inl (by simp only [endWrite_books, reachClose_books])
        · exact .inr (completes _ (by simp) (by simp))
  · exact .inl rfl

end Sys2Proof.Machine

/-! What a retirement does to the account (R107, R110 to R113): the one change each disposal of a set's numbers makes, and
what every retirement keeps of the other sets'. -/

namespace Sys2Proof.Machine
open Sys2Proof

/-! ### The disposal of a culled set (R57, R111, R112) -/

/-- The register entry of a number. -/
def Holders.entryNo (a : Holders) (k : Nat) : Option RemakeEntry := a.register.find? fun e => e.number == k

/-- The cause under which a set culled with cause c is voided, where it is voided: a set that should be remade is voided
with cause REMAKE_FULL, and only where the register has no room for it (R111). -/
def Holders.VoidsAs (a : Holders) (c why : VoidCause) : Prop :=
  (a.job.policy.cullPolicy = .void ∧ why = c)
    ∨ (a.job.policy.cullPolicy = .remake ∧ why = .remakeFull ∧ 64 ≤ a.register.length)

/-- The account after the numbers of a culled set r are disposed of, but for the set table. -/
inductive Disposes (r : SetRecord) (c : VoidCause) (a : Holders) : Holders → Prop
  /-- The numbers are void (R111). -/
  | voided (why : VoidCause) (hk : r.kind = .regular) (hw : a.VoidsAs c why) :
    Disposes r c a { a with
      voids := a.voids ++ voidRecords (a.job.scheme.withLanes r.numbers) why (some r.index) 0 false }
  /-- The log lacks room, and a row holds the numbers (R57). -/
  | held (why : VoidCause) (hk : r.kind = .regular) (hw : a.VoidsAs c why) :
    Disposes r c a { a with
      rows := a.rows ++ [⟨some r.index, a.job.scheme.withLanes r.numbers, why, 0, false⟩] }
  /-- The numbers are to be remade, on a new entry (R111, R138). -/
  | remade (hk : r.kind = .regular) (hp : a.job.policy.cullPolicy = .remake) :
    Disposes r c a { a with
      register := a.register ++ [⟨a.nextEntry, r.numbers, 0, c, .waiting, none, none, false⟩]
      nextEntry := a.nextEntry + 1 }
  /-- The entry waits for its next attempt (R112). -/
  | requeued (e : RemakeEntry) (hk : r.kind = .remake) (he : a.entryNo (r.entry.getD 0) = some e)
      (hl : r.attempt < a.job.policy.attemptLimit) :
    Disposes r c a { a with
      register := (a.register.filter fun x => x.number != e.number)
        ++ [{ e with
              attempts := r.attempt, state := .waiting, setIndex := none, pendingCause := none, exhausted := false }] }
  /-- The attempts are used up, and the entry's numbers are void (R112, R141). -/
  | entryVoided (e : RemakeEntry) (hk : r.kind = .remake) (he : a.entryNo (r.entry.getD 0) = some e)
      (hl : a.job.policy.attemptLimit ≤ r.attempt) :
    Disposes r c a { a with
      voids := a.voids ++ voidRecords (a.job.scheme.withLanes e.numbers) c (some r.index) r.attempt true
      register := a.register.filter fun x => x.number != e.number }
  /-- The attempts are used up, and the log lacks room (R112, R141). -/
  | entryHeld (e : RemakeEntry) (hk : r.kind = .remake) (he : a.entryNo (r.entry.getD 0) = some e)
      (hl : a.job.policy.attemptLimit ≤ r.attempt) :
    Disposes r c a { a with
      register := a.register.map fun x => if x.number = e.number then
        { e with
          attempts := r.attempt, state := .voidPending, setIndex := some r.index, pendingCause := some c
          exhausted := true }
        else x }
  /-- The set's entry is missing, which no run reaches (log entry 29). -/
  | noEntry (hk : r.kind = .remake) (he : a.entryNo (r.entry.getD 0) = none) : Disposes r c a a

/-- What stands in the slot of a retired record: no OPEN record, under the same index (R44, R57). -/
def Slot.Closes (x : Slot) (r : SetRecord) : Prop := x.index = r.index ∧ x.openRecord = none

/-- The account with what a slot holds replaced. -/
def Books.put (a : Books) (x : Slot) : Books := { a with table := ⟨putSlot x a.table.slots, a.table.frontier⟩ }

/-- The account after a cull of r: its slot holds no OPEN record, and its numbers are disposed of. -/
def Culls (r : SetRecord) (c : VoidCause) (a b : Books) : Prop :=
  ∃ (x : Slot) (h : Holders), x.Closes r ∧ Disposes r c a.holders h ∧ b = { a.put x with holders := h }

theorem trace_closes (r : SetRecord) (d : Disposition) (bundle : Option Nat) :
    (Slot.trace (r.trace d bundle)).Closes r := ⟨rfl, rfl⟩

theorem voidSet_culls {r : SetRecord} {c why : VoidCause} {s : State} (hk : r.kind = .regular)
    (hw : s.holders.VoidsAs c why) : Culls r c s.books (voidSet r why s).1.books := by
  simp only [voidSet]
  split
  · have table : (writeVoids true (voidRecords (s.scheme.withLanes r.numbers) why (some r.index) 0 false) s).table
        = s.table := by simp
    refine ⟨.trace (r.trace .culled none), _, trace_closes r .culled none, .voided why hk hw, ?_⟩
    rw [mapTable_books, writeVoids_books, table]
    rfl
  · exact ⟨.record { r with state := .voidPending, pendingCause := some why }, _, ⟨rfl, rfl⟩, .held why hk hw, rfl⟩

theorem cullRegular_culls {r : SetRecord} {s : State} (c : VoidCause) (hk : r.kind = .regular) :
    Culls r c s.books (cullRegular r c s).1.books := by
  cases hp : s.policy.cullPolicy with
  | void =>
    simp only [cullRegular, hp]
    exact voidSet_culls hk (.inl ⟨hp, rfl⟩)
  | remake =>
    simp only [cullRegular, hp]
    split
    · exact ⟨.trace (r.trace .culled none), _, trace_closes r .culled none, .remade hk hp, rfl⟩
    next hfull => exact voidSet_culls hk (.inr ⟨hp, rfl, Nat.not_lt.mp hfull⟩)

theorem cullEntry_disposes {r : SetRecord} {e : RemakeEntry} {s : State} (c : VoidCause) (hk : r.kind = .remake)
    (he : s.holders.entryNo (r.entry.getD 0) = some e) :
    ∃ h, Disposes r c s.holders h
      ∧ (cullEntry { e with attempts := r.attempt } c r.index s).1.books = { s.books with holders := h } := by
  by_cases hl : r.attempt < s.policy.attemptLimit
  · simp only [cullEntry, hl, if_true]
    exact ⟨_, .requeued e hk he hl, rfl⟩
  · simp only [cullEntry, hl, if_false, voidEntry]
    split
    · rw [removeEntry_books, writeVoids_books]
      exact ⟨_, .entryVoided e hk he (Nat.not_lt.mp hl), rfl⟩
    · exact ⟨_, .entryHeld e hk he (Nat.not_lt.mp hl), rfl⟩

theorem cullRemake_culls {r : SetRecord} {s : State} (c : VoidCause) (hk : r.kind = .remake) :
    Culls r c s.books (cullRemake r c s).1.books := by
  cases he : s.entryNo (r.entry.getD 0) with
  | none =>
    refine ⟨.trace (r.trace .culled none), _, trace_closes r .culled none, .noEntry hk he, ?_⟩
    simp only [cullRemake, he]
    rfl
  | some e =>
    obtain ⟨h, hd, hbooks⟩ :=
      cullEntry_disposes (s := s.mapTable fun t => t.putTrace (r.trace .culled none)) c hk he
    refine ⟨.trace (r.trace .culled none), h, trace_closes r .culled none, hd, ?_⟩
    simp only [cullRemake, he]
    exact hbooks

/-! ### What a disposal keeps -/

/-- The register entry that a set's retirement disposes of: a REMAKE set's own (R112). -/
def SetRecord.ownEntry (r : SetRecord) : Option Nat := if r.kind = .remake then some (r.entry.getD 0) else none

/-- From the account a to b numbers are only added to those voided, held and remade, but for one register entry; the
register grows by one entry at most, which bears a new number. -/
structure Grows (own : Option Nat) (a b : Holders) : Prop where
  job : b.job = a.job
  voids : ∀ x ∈ a.voids, x ∈ b.voids
  rows : ∀ w ∈ a.rows, w ∈ b.rows
  nextEntry : a.nextEntry ≤ b.nextEntry
  room : b.register.length ≤ a.register.length + 1
  kept : ∀ e ∈ a.register, own ≠ some e.number → e ∈ b.register
  found : ∀ k, k < a.nextEntry → own ≠ some k → b.entryNo k = a.entryNo k

theorem find?_number_filter {es : List RemakeEntry} {j k : Nat} (h : k ≠ j) :
    (es.filter fun e => e.number != j).find? (fun e => e.number == k) = es.find? fun e => e.number == k := by
  rw [List.find?_filter]
  congr 1
  funext e
  by_cases hk : e.number = k <;> simp [hk, h]

theorem find?_number_append {es : List RemakeEntry} (e : RemakeEntry) {k : Nat} (h : k ≠ e.number) :
    (es ++ [e]).find? (fun e => e.number == k) = es.find? fun e => e.number == k := by
  have miss : (e.number == k) = false := beq_eq_false_iff_ne.mpr h.symm
  simp [List.find?_append, miss]

theorem find?_number_replace {es : List RemakeEntry} (e : RemakeEntry) {k : Nat} (h : k ≠ e.number) :
    (es.map fun x => if x.number = e.number then e else x).find? (fun e => e.number == k)
      = es.find? fun e => e.number == k := by
  induction es with
  | nil => rfl
  | cons x xs ih =>
    have miss : (e.number == k) = false := beq_eq_false_iff_ne.mpr h.symm
    by_cases hx : x.number = e.number
    · simp only [List.map_cons, hx, if_true, List.find?_cons, miss, ih]
    · simp only [List.map_cons, hx, if_false, List.find?_cons, ih]

theorem Holders.entryNo_number {a : Holders} {k : Nat} {e : RemakeEntry} (h : a.entryNo k = some e) : e.number = k := by
  simpa using List.find?_some h

theorem Holders.entryNo_mem {a : Holders} {k : Nat} {e : RemakeEntry} (h : a.entryNo k = some e) : e ∈ a.register :=
  List.mem_of_find?_eq_some h

theorem Grows.refl (own : Option Nat) (a : Holders) : Grows own a a :=
  ⟨rfl, fun _ => id, fun _ => id, Nat.le_refl _, Nat.le_succ _, fun _ h _ => h, fun _ _ _ => rfl⟩

/-- The number of the entry a REMAKE set's disposal finds is that of the set's own entry. -/
theorem ownEntry_of_found {r : SetRecord} {a : Holders} {e : RemakeEntry} (hk : r.kind = .remake)
    (he : a.entryNo (r.entry.getD 0) = some e) : r.ownEntry = some e.number := by
  rw [SetRecord.ownEntry, if_pos hk, Holders.entryNo_number he]

/-- An entry leaves the register. -/
theorem grows_removed {a : Holders} (k : Nat) {voids : List VoidRecord} (hv : ∀ x ∈ a.voids, x ∈ voids) :
    Grows (some k) a { a with voids := voids, register := a.register.filter fun x => x.number != k } where
  job := rfl
  voids := hv
  rows _ h := h
  nextEntry := Nat.le_refl _
  room := Nat.le_succ_of_le (List.length_filter_le _ _)
  kept _ he hne := List.mem_filter.mpr ⟨he, bne_iff_ne.mpr fun h => hne (congrArg some h.symm)⟩
  found _ _ hne := find?_number_filter fun h => hne (congrArg some h.symm)

theorem Disposes.grows {r : SetRecord} {c : VoidCause} {a b : Holders} (h : Disposes r c a b) : Grows r.ownEntry a b := by
  cases h with
  | voided => exact { Grows.refl r.ownEntry a with voids := fun _ => List.mem_append_left _ }
  | held => exact { Grows.refl r.ownEntry a with rows := fun _ => List.mem_append_left _ }
  | remade =>
    exact { Grows.refl r.ownEntry a with
      nextEntry := Nat.le_succ _
      room := by simp
      kept := fun _ he _ => List.mem_append_left _ he
      found := fun k hk _ => find?_number_append _ (Nat.ne_of_lt hk) }
  | requeued e hk he =>
    have removed := grows_removed (a := a) e.number fun _ => id
    rw [ownEntry_of_found hk he]
    exact { Grows.refl (some e.number) a with
      room := by simpa using List.length_filter_le _ a.register
      kept := fun x hx hne => List.mem_append_left _ (removed.kept x hx hne)
      found := fun k hk hne =>
        Eq.trans (find?_number_append _ fun h => hne (congrArg some h.symm)) (removed.found k hk hne) }
  | entryVoided e hk he =>
    rw [ownEntry_of_found hk he]
    exact grows_removed e.number fun _ => List.mem_append_left _
  | entryHeld e hk he =>
    rw [ownEntry_of_found hk he]
    exact { Grows.refl (some e.number) a with
      room := by simp
      kept := fun x hx hne => List.mem_map.mpr ⟨x, hx, if_neg fun h => hne (congrArg some h.symm)⟩
      found := fun k _ hne => find?_number_replace { e with
          attempts := r.attempt, state := .voidPending, setIndex := some r.index, pendingCause := some c
          exhausted := true } fun h => hne (congrArg some h.symm) }
  | noEntry => exact Grows.refl r.ownEntry a

/-! ### A whole retirement (R113) -/

/-- The end of a retirement lets the account stand, or the job is then out of the run (R161). -/
def Ends (a b : Books) : Prop := b = a ∨ ∃ tracker, b = { a with inRun := false, tracker := tracker, divert := true }

theorem Ends.holders {a b : Books} (h : Ends a b) : b.holders = a.holders := by
  rcases h with rfl | ⟨tracker, rfl⟩ <;> rfl

theorem ends_reportFull_completionCheck (wasFull : Bool) (s : State) :
    Ends s.books (reportFull wasFull (completionCheck s)).books := by
  rw [reportFull_books]
  exact (completionCheck_books s).imp id fun h => ⟨_, h⟩

theorem cullWrite_culls (r : SetRecord) (c : VoidCause) (s : State) :
    Culls r c { s.books with setsCulled := s.acct.counters.setsCulled.raise 1 } (cullWrite r c s).books := by
  cases hk : r.kind with
  | regular =>
    have culls := cullRegular_culls (c := c) hk
      (s := moveRetired r.numbers (s.mapCounters fun k => { k with setsCulled := k.setsCulled.raise 1 }))
    simp only [cullWrite, hk, endWrite_books, closeAtRetirement_books, addException_books]
    rwa [moveRetired_books] at culls
  | remake =>
    simp only [cullWrite, hk, endWrite_books, closeAtRetirement_books, addException_books]
    exact cullRemake_culls (s := s.mapCounters fun k => { k with setsCulled := k.setsCulled.raise 1 }) c hk

theorem retire_culls (r : SetRecord) (c : VoidCause) (s : State) :
    ∃ b, Culls r c { s.books with setsCulled := s.books.setsCulled.raise 1 } b
      ∧ Ends b (retire r (some c) s).books := by
  refine ⟨_, cullWrite_culls r c s, ?_⟩
  have ends := ends_reportFull_completionCheck s.manifestsFull
    (spoilEvent true (noteRetirement r.index ⟨.culled, r.numbers, none⟩ (cullWrite r c s)))
  rwa [spoilEvent_books, noteRetirement_books] at ends

/-- The holders after a delivery: the register entry of a remade set is removed (R110, R139). -/
def Holders.delivering (a : Holders) (r : SetRecord) : Holders :=
  if r.kind = .remake then { a with register := a.register.filter fun e => e.number != r.entry.getD 0 } else a

theorem grows_delivering (a : Holders) (r : SetRecord) : Grows r.ownEntry a (a.delivering r) := by
  by_cases hk : r.kind = .remake
  · simp only [SetRecord.ownEntry, Holders.delivering, hk, if_true]
    exact grows_removed (r.entry.getD 0) fun _ => id
  · simp only [SetRecord.ownEntry, Holders.delivering, hk, if_false]
    exact Grows.refl none a

theorem retire_some_disposes (r : SetRecord) (c : VoidCause) (s : State) :
    Disposes r c s.holders (retire r (some c) s).holders := by
  obtain ⟨b, ⟨x, h, -, hd, rfl⟩, hends⟩ := retire_culls r c s
  have holders : (retire r (some c) s).holders = h := hends.holders
  exact holders ▸ hd

theorem deliverWrite_books (r : SetRecord) (s : State) :
    ∃ x : Slot, x.Closes r ∧ (deliverWrite r s).books = { s.books.put x with
      setsDelivered := s.books.setsDelivered.raise 1, holders := s.holders.delivering r } := by
  refine ⟨_, trace_closes r .delivered (s.acct.bundle.map OpenBundle.number), ?_⟩
  cases hk : r.kind with
  | regular =>
    simp only [deliverWrite, hk, endWrite_books, closeAtRetirement_books, moveRetired_books, mapBundle_books,
      Holders.delivering, reduceCtorEq, if_false]
    rfl
  | remake =>
    simp only [deliverWrite, hk, endWrite_books, closeAtRetirement_books, addException_books, removeEntry_books,
      mapBundle_books, Holders.delivering, if_true]
    rfl

theorem retire_delivers (r : SetRecord) (s : State) : Ends (deliverWrite r s).books (retire r none s).books := by
  have ends := ends_reportFull_completionCheck s.manifestsFull
    (spoilEvent false (noteRetirement r.index ⟨.delivered, r.numbers, s.acct.bundle.map OpenBundle.number⟩
      (deliverWrite r s)))
  rwa [spoilEvent_books, noteRetirement_books] at ends

/-- What the retirement of an OPEN record r keeps and counts: r alone leaves the OPEN records, the frontier stands, one
counter has risen, and unless the job has ended nothing of the run has changed. -/
structure Retires (r : SetRecord) (cause : Option VoidCause) (a b : Books) : Prop where
  openRecords : b.table.openRecords = a.table.openRecords.filter fun y => y.index != r.index
  wf : b.table.wf = true
  frontier : b.table.frontier = a.table.frontier
  culled : b.setsCulled = if cause.isSome then a.setsCulled.raise 1 else a.setsCulled
  delivered : b.setsDelivered = if cause.isSome then a.setsDelivered else a.setsDelivered.raise 1
  grows : Grows r.ownEntry a.holders b.holders
  run : b.inRun = true → a.inRun = true ∧ b.tracker = a.tracker ∧ b.divert = a.divert

theorem Retires.ends {r : SetRecord} {cause : Option VoidCause} {a b t : Books} (h : Retires r cause a b)
    (he : Ends b t) : Retires r cause a t := by
  rcases he with rfl | ⟨tracker, rfl⟩
  · exact h
  · exact { h with run := fun hrun => absurd hrun Bool.false_ne_true }

section
variable {r : SetRecord} {s : State} (hwf : s.table.wf = true) (hr : r ∈ s.table.openRecords)
include hwf hr

theorem retire_some_retires (c : VoidCause) : Retires r (some c) s.books (retire r (some c) s).books := by
  obtain ⟨b, ⟨x, h, ⟨hindex, hclosed⟩, hd, rfl⟩, hends⟩ := retire_culls r c s
  refine Retires.ends ?_ hends
  exact {
    openRecords := SetTable.openRecords_put hwf hr hindex hclosed
    wf := (SetTable.wf_iff _).mpr (putSlot_pairwise x ((SetTable.wf_iff _).mp hwf))
    frontier := rfl
    culled := rfl
    delivered := rfl
    grows := hd.grows
    run := fun h => ⟨h, rfl, rfl⟩ }

theorem retire_none_retires : Retires r none s.books (retire r none s).books := by
  obtain ⟨x, ⟨hindex, hclosed⟩, hbooks⟩ := deliverWrite_books r s
  refine Retires.ends ?_ (hbooks ▸ retire_delivers r s)
  exact {
    openRecords := SetTable.openRecords_put hwf hr hindex hclosed
    wf := (SetTable.wf_iff _).mpr (putSlot_pairwise x ((SetTable.wf_iff _).mp hwf))
    frontier := rfl
    culled := rfl
    delivered := rfl
    grows := grows_delivering s.holders r
    run := fun h => ⟨h, rfl, rfl⟩ }

theorem retire_retires (cause : Option VoidCause) : Retires r cause s.books (retire r cause s).books := by
  cases cause with
  | none => exact retire_none_retires hwf hr
  | some c => exact retire_some_retires hwf hr c

end

end Sys2Proof.Machine

/-! The gate cue (R4, R105 to R109): the OPEN records below the cue's index are passed over one by one, each accounted for
as it is culled, and then the cue's own form is retired or diverted as waste. -/

namespace Sys2Proof.Machine
open Sys2Proof

/-! ### The account of a set passed over (R106, R108, R111, R112) -/

/-- The cause with which a set passed over is culled: the host's mark ranks first (Table 46). -/
def SetRecord.passedCause (r : SetRecord) : VoidCause := if r.hostCull then .hostCull else .gateSkew

/-- The numbers of r stand in the void log with a cause. -/
def Holders.HasVoided (b : Holders) (c : Scheme) (r : SetRecord) (why : VoidCause) (attempts : Nat)
    (exhausted : Bool) : Prop :=
  ∀ x ∈ c.withLanes r.numbers, (⟨x.1, x.2, why, some r.index, attempts, exhausted, none⟩ : VoidRecord) ∈ b.voids

/-- The numbers of r stand in the void log, or on a pending-void row, with a cause. -/
def Holders.HasVoidedOrHeld (b : Holders) (c : Scheme) (r : SetRecord) (why : VoidCause) : Prop :=
  b.HasVoided c r why 0 false ∨ ⟨some r.index, c.withLanes r.numbers, why, 0, false⟩ ∈ b.rows

/-- From the holders a to b the set r has been accounted for, as one of at most `due` sets. -/
def Accounted (due : Nat) (a : Holders) (r : SetRecord) (b : Holders) : Prop :=
  (r.kind = .regular →
    (a.job.policy.cullPolicy = .void → b.HasVoidedOrHeld a.job.scheme r r.passedCause)
    ∧ (a.job.policy.cullPolicy = .remake →
      (∃ n, a.nextEntry ≤ n ∧ ⟨n, r.numbers, 0, r.passedCause, .waiting, none, none, false⟩ ∈ b.register)
        ∨ (64 < a.register.length + due ∧ b.HasVoidedOrHeld a.job.scheme r .remakeFull)))
  ∧ (r.kind = .remake → ∃ e ∈ a.register, r.entry = some e.number
    ∧ (r.attempt < a.job.policy.attemptLimit →
      { e with
        attempts := r.attempt, state := .waiting, setIndex := none, pendingCause := none
        exhausted := false } ∈ b.register)
    ∧ (a.job.policy.attemptLimit ≤ r.attempt →
      b.HasVoided a.job.scheme r r.passedCause r.attempt true
        ∨ { e with
            attempts := r.attempt, state := .voidPending, setIndex := some r.index
            pendingCause := some r.passedCause, exhausted := true } ∈ b.register))

theorem hasVoided_append {b : Holders} (c : Scheme) (r : SetRecord) (why : VoidCause) (attempts : Nat) (exhausted : Bool)
    {old : List VoidRecord}
    (hb : b.voids = old ++ voidRecords (c.withLanes r.numbers) why (some r.index) attempts exhausted) :
    b.HasVoided c r why attempts exhausted := fun x hx => by
  rw [hb]
  exact List.mem_append_right _ (List.mem_map.mpr ⟨x, hx, rfl⟩)

/-- The disposal of a set under the cause of the passed-over accounts for it, from any holders a that the disposal's own
have come from. -/
theorem Disposes.accounted {due : Nat} {a u b : Holders} {r : SetRecord} (h : Disposes r r.passedCause u b)
    (hjob : u.job = a.job) (hnext : a.nextEntry ≤ u.nextEntry) (hroom : u.register.length < a.register.length + due)
    (hown : r.kind = .remake → ∃ e ∈ a.register, r.entry = some e.number ∧ e.numbers = r.numbers
      ∧ u.entryNo e.number = some e) : Accounted due a r b := by
  have regular (hk : r.kind = .regular) (why : VoidCause) (hw : u.VoidsAs r.passedCause why)
      (hb : b.HasVoidedOrHeld a.job.scheme r why) : Accounted due a r b := by
    refine ⟨fun _ => ⟨fun hp => ?_, fun hp => .inr ?_⟩, fun hremake => by simp [hk] at hremake⟩
    · rcases hw with ⟨-, rfl⟩ | ⟨hp', -⟩
      · exact hb
      · simp [hjob, hp] at hp'
    · rcases hw with ⟨hp', -⟩ | ⟨-, rfl, hfull⟩
      · simp [hjob, hp] at hp'
      · exact ⟨Nat.lt_of_le_of_lt hfull hroom, hb⟩
  have own {e : RemakeEntry} (hk : r.kind = .remake) (he : u.entryNo (r.entry.getD 0) = some e) :
      e ∈ a.register ∧ r.entry = some e.number ∧ e.numbers = r.numbers := by
    obtain ⟨e', hmem, hentry, hnumbers, hfound⟩ := hown hk
    have same : e' = e := by simpa [hentry, hfound] using he
    exact same ▸ ⟨hmem, hentry, hnumbers⟩
  cases h with
  | voided why hk hw => exact regular hk why hw (.inl (hjob ▸ hasVoided_append _ r why 0 false rfl))
  | held why hk hw => exact regular hk why hw (.inr (hjob ▸ List.mem_append_right _ (List.mem_singleton.mpr rfl)))
  | remade hk hp =>
    refine ⟨fun _ => ⟨fun hp' => ?_, fun _ => .inl ⟨_, hnext, ?_⟩⟩, fun hremake => by simp [hk] at hremake⟩
    · simp [← hjob, hp] at hp'
    · exact List.mem_append_right _ (List.mem_singleton.mpr rfl)
  | requeued e hk he hl =>
    obtain ⟨hmem, hentry, -⟩ := own hk he
    refine ⟨fun hregular => by simp [hk] at hregular, fun _ => ⟨e, hmem, hentry, fun _ => ?_, fun hle => ?_⟩⟩
    · exact List.mem_append_right _ (List.mem_singleton.mpr rfl)
    · exact absurd (hjob ▸ hl) (Nat.not_lt.mpr hle)
  | entryVoided e hk he hl =>
    obtain ⟨hmem, hentry, hnumbers⟩ := own hk he
    refine ⟨fun hregular => by simp [hk] at hregular,
      fun _ => ⟨e, hmem, hentry, fun hlt => absurd (hjob ▸ hl) (Nat.not_le.mpr hlt), fun _ => .inl ?_⟩⟩
    exact hasVoided_append _ r _ r.attempt true (by rw [hnumbers, hjob])
  | entryHeld e hk he hl =>
    obtain ⟨hmem, hentry, -⟩ := own hk he
    refine ⟨fun hregular => by simp [hk] at hregular,
      fun _ => ⟨e, hmem, hentry, fun hlt => absurd (hjob ▸ hl) (Nat.not_le.mpr hlt), fun _ => .inr ?_⟩⟩
    exact List.mem_map.mpr ⟨e, Holders.entryNo_mem he, if_pos rfl⟩
  | noEntry hk he =>
    obtain ⟨e, -, hentry, -, hfound⟩ := hown hk
    simp [hentry, hfound] at he

/-- A later retirement, of another entry that is not new, leaves the account of a set as it is. -/
theorem Accounted.of_grows {due : Nat} {a b t : Holders} {r : SetRecord} {own : Option Nat} (h : Accounted due a r b)
    (hg : Grows own b t) (hold : ∀ k, own = some k → k < a.nextEntry) (hown : ∀ k, r.ownEntry = some k → own ≠ some k) :
    Accounted due a r t := by
  have voided {why : VoidCause} {attempts : Nat} {exhausted : Bool}
      (hb : b.HasVoided a.job.scheme r why attempts exhausted) : t.HasVoided a.job.scheme r why attempts exhausted :=
    fun x hx => hg.voids _ (hb x hx)
  have voidedOrHeld {why : VoidCause} (hb : b.HasVoidedOrHeld a.job.scheme r why) :
      t.HasVoidedOrHeld a.job.scheme r why := hb.imp voided (hg.rows _)
  obtain ⟨hregular, hremake⟩ := h
  refine ⟨fun hk => ?_, fun hk => ?_⟩
  · obtain ⟨hvoid, hremade⟩ := hregular hk
    refine ⟨fun hp => voidedOrHeld (hvoid hp), fun hp => (hremade hp).imp ?_ (And.imp_right voidedOrHeld)⟩
    rintro ⟨n, hn, hmem⟩
    exact ⟨n, hn, hg.kept _ hmem fun h => Nat.not_lt.mpr hn (hold n h)⟩
  · obtain ⟨e, he, hentry, hwaiting, hlimit⟩ := hremake hk
    have other : own ≠ some e.number := hown _ (by simp [SetRecord.ownEntry, hk, hentry])
    exact ⟨e, he, hentry, fun hl => hg.kept _ (hwaiting hl) other,
      fun hl => (hlimit hl).imp voided fun hmem => hg.kept _ hmem other⟩

/-! ### The register entries of OPEN remake records (R48, R139) -/

/-- Each OPEN remake record names an entry of the register that holds its index and its numbers. -/
def Owned (a : Books) : Prop :=
  ∀ r ∈ a.table.openRecords, r.kind = .remake → ∃ e, r.entry = some e.number ∧ a.holders.entryNo e.number = some e
    ∧ e.numbers = r.numbers ∧ e.setIndex = some r.index ∧ e.number < a.holders.nextEntry

theorem find?_number_of_mem {es : List RemakeEntry} (h : (es.map RemakeEntry.number).Nodup) {e : RemakeEntry}
    (he : e ∈ es) : es.find? (fun x => x.number == e.number) = some e := by
  induction es with
  | nil => exact absurd he List.not_mem_nil
  | cons x xs ih =>
    obtain ⟨hx, hxs⟩ := List.nodup_cons.mp h
    rcases List.mem_cons.mp he with rfl | he
    · simp only [List.find?_cons, beq_self_eq_true]
    · have other : (x.number == e.number) = false := beq_eq_false_iff_ne.mpr fun hxe =>
        hx (hxe ▸ List.mem_map.mpr ⟨e, he, rfl⟩)
      simp only [List.find?_cons, other, ih hxs he]

theorem owned_of_ledger {s : State} (h : LedgerInv s) : Owned s.books := by
  obtain ⟨-, -, -, hnodup, hnext, hopen, -⟩ := h
  intro r hr hk
  obtain ⟨hrecord, hstate⟩ := SetTable.mem_openRecords.mp hr
  obtain ⟨-, hremake⟩ := hopen r hrecord hstate
  obtain ⟨e, he, hentry, -, hindex, hnumbers⟩ := hremake hk
  exact ⟨e, hentry, find?_number_of_mem hnodup he, hnumbers, hindex, hnext e he⟩

section
variable {a : Books} {r : SetRecord} (ho : Owned a) (hr : r ∈ a.table.openRecords)
include ho hr

theorem Owned.ownEntry_lt {k : Nat} (hk : r.ownEntry = some k) : k < a.holders.nextEntry := by
  by_cases hkind : r.kind = .remake
  · obtain ⟨e, hentry, -, -, -, hlt⟩ := ho r hr hkind
    have : e.number = k := by simpa [SetRecord.ownEntry, hkind, hentry] using hk
    omega
  · simp [SetRecord.ownEntry, hkind] at hk

/-- Two sets that are remade have entries of their own. -/
theorem Owned.ownEntry_ne {x : SetRecord} (hx : x ∈ a.table.openRecords) (hne : x.index ≠ r.index) {k : Nat}
    (hk : r.ownEntry = some k) : x.ownEntry ≠ some k := by
  intro hxk
  by_cases hkind : r.kind = .remake
  · by_cases hxkind : x.kind = .remake
    · obtain ⟨e, hentry, hfound, -, hindex, -⟩ := ho r hr hkind
      obtain ⟨e', hentry', hfound', -, hindex', -⟩ := ho x hx hxkind
      have number : e.number = k := by simpa [SetRecord.ownEntry, hkind, hentry] using hk
      have number' : e'.number = k := by simpa [SetRecord.ownEntry, hxkind, hentry'] using hxk
      have same : e = e' := by
        rw [number] at hfound
        rw [number', hfound] at hfound'
        exact Option.some.inj hfound'
      rw [same, hindex'] at hindex
      exact hne (Option.some.inj hindex)
    · simp [SetRecord.ownEntry, hxkind] at hxk
  · simp [SetRecord.ownEntry, hkind] at hk

end

/-! ### The records passed over, one by one (R106) -/

/-- How many OPEN records stand at or below an index. -/
def Books.due (a : Books) (i : Nat) : Nat := a.table.openRecords.countP fun r => decide (r.index ≤ i)

theorem Retires.due_succ {r : SetRecord} {cause : Option VoidCause} {a b : Books} (h : Retires r cause a b)
    (hwf : a.table.wf = true) (hr : r ∈ a.table.openRecords) {i : Nat} (hi : r.index ≤ i) :
    b.due i + 1 = a.due i := by
  have own : a.table.openRecords.filter (fun y => !(y.index != r.index)) = [r] := by
    simpa [bne] using SetTable.openRecords_filter_index hwf hr
  rw [Books.due, Books.due, List.countP_eq_countP_filter_add a.table.openRecords _ fun y => y.index != r.index, own,
    h.openRecords]
  simp [hi]

/-- While records at or below an index are passed over: how the account u stands to the account a at the start. -/
structure Passing (i : Nat) (a u : Books) : Prop where
  wf : u.table.wf = true
  frontier : u.table.frontier = a.table.frontier
  subset : ∀ r ∈ u.table.openRecords, r ∈ a.table.openRecords
  culled : u.setsCulled.value + u.due i = a.setsCulled.value + a.due i
  delivered : u.setsDelivered = a.setsDelivered
  job : u.holders.job = a.holders.job
  nextEntry : a.holders.nextEntry ≤ u.holders.nextEntry
  room : u.holders.register.length + u.due i ≤ a.holders.register.length + a.due i
  due : u.due i ≤ a.due i
  run : u.inRun = true → a.inRun = true ∧ u.tracker = a.tracker

/-- While records below an index are passed over: those that are gone are accounted for, and the entries of those that
still stand are as they were. -/
structure PassingAccounts (i : Nat) (a u : Books) : Prop where
  entries : ∀ r ∈ u.table.openRecords, ∀ k, r.ownEntry = some k → u.holders.entryNo k = a.holders.entryNo k
  accounted : ∀ r ∈ a.table.openRecords, r.index < i → r ∉ u.table.openRecords →
    Accounted (a.due i) a.holders r u.holders

theorem Passing.refl {a : Books} (i : Nat) (h : a.table.wf = true) : Passing i a a :=
  ⟨h, rfl, fun _ => id, rfl, rfl, rfl, Nat.le_refl _, Nat.le_refl _, Nat.le_refl _, fun h => ⟨h, rfl⟩⟩

theorem PassingAccounts.refl (i : Nat) (a : Books) : PassingAccounts i a a :=
  ⟨fun _ _ _ _ => rfl, fun _ hr _ hgone => absurd hr hgone⟩

theorem Counter.raise_value {c : Counter} {n : Nat} (h : c.value + n ≤ 99999999) : (c.raise n).value = c.value + n := by
  have within : ¬ Config.counterCeiling < c.value + n := Nat.not_lt.mpr h
  rw [Counter.raise, if_neg within]

theorem Retires.mem_openRecords {r x : SetRecord} {cause : Option VoidCause} {a b : Books} (h : Retires r cause a b) :
    x ∈ b.table.openRecords ↔ x ∈ a.table.openRecords ∧ x.index ≠ r.index := by
  rw [h.openRecords, List.mem_filter, bne_iff_ne]

section
variable {i : Nat} {a u b : Books} {r : SetRecord} {c : VoidCause}

theorem Passing.retires (h : Passing i a u) (hR : Retires r (some c) u b) (hr : r ∈ u.table.openRecords)
    (hi : r.index ≤ i) (hceiling : a.setsCulled.value + a.due i ≤ 99999999) : Passing i a b := by
  have hdue := hR.due_succ h.wf hr hi
  have hculled := h.culled
  have hraised : b.setsCulled.value = u.setsCulled.value + 1 := by
    rw [hR.culled]
    exact Counter.raise_value (by omega)
  have hroom := hR.grows.room
  exact {
    wf := hR.wf
    frontier := hR.frontier.trans h.frontier
    subset := fun x hx => h.subset x (hR.mem_openRecords.mp hx).1
    culled := by omega
    delivered := hR.delivered.trans h.delivered
    job := hR.grows.job.trans h.job
    nextEntry := Nat.le_trans h.nextEntry hR.grows.nextEntry
    room := by have := h.room; omega
    due := by have := h.due; omega
    run := fun hrun => by
      obtain ⟨hrun', htracker, -⟩ := hR.run hrun
      obtain ⟨hrun'', htracker'⟩ := h.run hrun'
      exact ⟨hrun'', htracker.trans htracker'⟩ }

theorem PassingAccounts.retires (h : PassingAccounts i a u) (hwf : a.table.wf = true) (hp : Passing i a u)
    (ho : Owned a) (hR : Retires r (some c) u b) (hr : r ∈ u.table.openRecords)
    (haccount : Accounted (a.due i) a.holders r b.holders) : PassingAccounts i a b where
  entries x hx k hk := by
    obtain ⟨hx, hne⟩ := hR.mem_openRecords.mp hx
    have hlt := ho.ownEntry_lt (hp.subset x hx) hk
    have other := ho.ownEntry_ne (hp.subset x hx) (hp.subset r hr) hne.symm hk
    exact (hR.grows.found k (Nat.lt_of_lt_of_le hlt hp.nextEntry) other).trans (h.entries x hx k hk)
  accounted x hx hxi hgone := by
    by_cases hxr : x = r
    · exact hxr ▸ haccount
    · have hne : r.index ≠ x.index := fun e =>
        hxr (SetTable.openRecords_eq_of_index hwf (hp.subset r hr) hx e.symm)
      have gone : x ∉ u.table.openRecords := fun hxu => hgone (hR.mem_openRecords.mpr ⟨hxu, hne.symm⟩)
      exact (h.accounted x hx hxi gone).of_grows hR.grows (fun k => ho.ownEntry_lt (hp.subset r hr))
        fun k => ho.ownEntry_ne hx (hp.subset r hr) hne

/-- The set r, passed over next, is accounted for. -/
theorem PassingAccounts.next (h : PassingAccounts i a u) (hp : Passing i a u) (ho : Owned a)
    (hr : r ∈ u.table.openRecords) (hi : r.index ≤ i) {d : Holders} (hd : Disposes r r.passedCause u.holders d) :
    Accounted (a.due i) a.holders r d := by
  have counted : 0 < u.due i := List.countP_pos_iff.mpr ⟨r, hr, decide_eq_true hi⟩
  have hroom := hp.room
  refine hd.accounted hp.job hp.nextEntry (by omega) fun hk => ?_
  obtain ⟨e, hentry, hfound, hnumbers, -, -⟩ := ho r (hp.subset r hr) hk
  have own : r.ownEntry = some e.number := by simp [SetRecord.ownEntry, hk, hentry]
  exact ⟨e, Holders.entryNo_mem hfound, hentry, hnumbers, (h.entries r hr _ own).trans hfound⟩

end

theorem retirePassed_of_none {j : Nat} {s : State} (h : s.table.openAt j = none) : retirePassed j s = s := by
  simp only [retirePassed, h]

theorem retirePassed_of_some {j : Nat} {s : State} {r : SetRecord} (h : s.table.openAt j = some r) :
    retirePassed j s = retire r (some r.passedCause) s := by
  simp only [retirePassed, h, SetRecord.passedCause]

theorem passOver_passing {s : State} {i : Nat} (hwf : s.table.wf = true)
    (hceiling : s.books.setsCulled.value + s.books.due i ≤ 99999999) :
    Passing i s.books (passOver i s).books ∧ (Owned s.books → PassingAccounts i s.books (passOver i s).books) := by
  refine List.foldlRecOn
    (motive := fun u : State => Passing i s.books u.books ∧ (Owned s.books → PassingAccounts i s.books u.books)) _ _
    ⟨Passing.refl i hwf, fun _ => PassingAccounts.refl i _⟩ fun u ⟨hp, ha⟩ j hj => ?_
  have hji : j < i := of_decide_eq_true (List.mem_filter.mp hj).2
  cases hopen : u.table.openAt j with
  | none => exact (retirePassed_of_none hopen).symm ▸ ⟨hp, ha⟩
  | some r =>
    obtain ⟨hr, hindex⟩ := (SetTable.openAt_eq_some_iff hp.wf).mp hopen
    have hi : r.index ≤ i := by omega
    have hR := retire_some_retires hp.wf hr r.passedCause
    rw [retirePassed_of_some hopen]
    refine ⟨hp.retires hR hr hi hceiling, fun ho => (ha ho).retires hwf hp ho hR hr ?_⟩
    exact (ha ho).next hp ho hr hi (retire_some_disposes r r.passedCause u)

/-! ### Which records are passed over -/

theorem retirePassed_openRecords {s : State} (hwf : s.table.wf = true) (j : Nat) :
    (retirePassed j s).table.wf = true
      ∧ (retirePassed j s).table.openRecords = s.table.openRecords.filter fun r => r.index != j := by
  cases hopen : s.table.openAt j with
  | none =>
    have absent : ∀ r ∈ s.table.openRecords, (r.index != j) = true := fun r hr =>
      bne_iff_ne.mpr fun e => by simp [(SetTable.openAt_eq_some_iff hwf).mpr ⟨hr, e⟩] at hopen
    rw [retirePassed_of_none hopen, List.filter_eq_self.mpr absent]
    exact ⟨hwf, rfl⟩
  | some r =>
    obtain ⟨hr, rfl⟩ := (SetTable.openAt_eq_some_iff hwf).mp hopen
    have hR := retire_some_retires hwf hr r.passedCause
    rw [retirePassed_of_some hopen]
    exact ⟨hR.wf, hR.openRecords⟩

theorem foldl_retirePassed_openRecords {s : State} (hwf : s.table.wf = true) (js : List Nat) :
    (js.foldl (fun s j => retirePassed j s) s).table.openRecords
      = s.table.openRecords.filter fun r => decide (r.index ∉ js) := by
  induction js generalizing s with
  | nil => exact (List.filter_eq_self.mpr fun r _ => decide_eq_true List.not_mem_nil).symm
  | cons j js ih =>
    obtain ⟨hwf', hopen⟩ := retirePassed_openRecords hwf j
    rw [List.foldl_cons, ih hwf', hopen, List.filter_filter]
    refine List.filter_congr fun r _ => ?_
    by_cases hj : r.index = j <;> simp [hj]

theorem passOver_openRecords {s : State} (hwf : s.table.wf = true) (i : Nat) :
    (passOver i s).table.openRecords = s.table.openRecords.filter fun r => decide (i ≤ r.index) := by
  rw [passOver, foldl_retirePassed_openRecords hwf]
  refine List.filter_congr fun r hr => decide_eq_decide.mpr ?_
  have listed : r.index ∈ s.table.openIndices := SetTable.mem_openIndices.mpr ⟨r, hr, rfl⟩
  simp [List.mem_filter, listed]

theorem passOver_of_none_below {s : State} {i : Nat} (h : ∀ r ∈ s.table.openRecords, i ≤ r.index) :
    passOver i s = s := by
  have nothing : s.table.openIndices.filter (fun j => decide (j < i)) = [] := by
    refine List.filter_eq_nil_iff.mpr fun j hj => ?_
    obtain ⟨r, hr, rfl⟩ := SetTable.mem_openIndices.mp hj
    simpa using h r hr
  rw [passOver, nothing, List.foldl_nil]

/-- The record of the cue's own index is not passed over. -/
theorem passOver_openAt {s : State} {i : Nat} (hwf : s.table.wf = true) (hwf' : (passOver i s).table.wf = true) :
    (passOver i s).table.openAt i = s.table.openAt i := by
  refine Option.ext fun r => ?_
  rw [SetTable.openAt_eq_some_iff hwf', SetTable.openAt_eq_some_iff hwf, passOver_openRecords hwf, List.mem_filter,
    decide_eq_true_iff]
  constructor
  · rintro ⟨⟨hr, -⟩, hi⟩; exact ⟨hr, hi⟩
  · rintro ⟨hr, hi⟩; exact ⟨⟨hr, Nat.le_of_eq hi.symm⟩, hi⟩

/-! ### The cue's own form (R105, R107, R109) -/

theorem openAt_of_lookup {s : State} {i : Nat} {r : SetRecord} (h : s.lookup i = .opened r) :
    s.table.openAt i = some r := by
  unfold State.lookup at h
  cases hrec : s.table.recordAt i with
  | none =>
    simp only [hrec] at h
    (repeat' split at h) <;> cases h
  | some x =>
    simp only [hrec] at h
    split at h
    next hopen =>
      cases h
      simp only [SetTable.openAt, hrec, hopen, if_true]
    · cases h

theorem gateForm_waste {s : State} {i : Nat} (h : s.table.openAt i = none) : gateForm i s = waste s := by
  cases hl : s.lookup i with
  | opened r => simp [openAt_of_lookup hl] at h
  | pending | retired | none => simp only [gateForm, hl]

theorem gateForm_retires {s : State} {i : Nat} {r : SetRecord} (h : s.table.openAt i = some r) :
    gateForm i s = retire r (cullCause (s.tracker.gate.state == .skewed) s.policy.unverified r)
      (setDivert (cullCause (s.tracker.gate.state == .skewed) s.policy.unverified r).isSome s) := by
  simp only [gateForm, lookup_of_openAt h]

/-- What a gate cue of index i does to the account: every OPEN record up to i is retired and counted once, and each below
i is accounted for. -/
structure RetiresUpTo (i : Nat) (a b : Books) : Prop where
  openRecords : b.table.openRecords = a.table.openRecords.filter fun r => decide (i < r.index)
  counted : b.setsCulled.value + b.setsDelivered.value = a.setsCulled.value + a.setsDelivered.value + a.due i
  frontier : b.table.frontier = a.table.frontier
  accounted : Owned a → ∀ r ∈ a.table.openRecords, r.index < i → Accounted (a.due i) a.holders r b.holders

theorem due_of_above {a b : Books} {i : Nat}
    (h : b.table.openRecords = a.table.openRecords.filter fun r => decide (i < r.index)) : b.due i = 0 := by
  rw [Books.due, h, List.countP_eq_zero]
  intro r hr
  simpa using (List.mem_filter.mp hr).2

theorem accounted_below {i : Nat} {a u : Books} (ha : PassingAccounts i a u)
    (hstill : u.table.openRecords = a.table.openRecords.filter fun r => decide (i ≤ r.index)) {r : SetRecord}
    (hr : r ∈ a.table.openRecords) (hi : r.index < i) : Accounted (a.due i) a.holders r u.holders :=
  ha.accounted r hr hi fun h => by
    rw [hstill, List.mem_filter, decide_eq_true_iff] at h
    omega

section
variable {i : Nat} {a u : Books} (hp : Passing i a u) (ha : Owned a → PassingAccounts i a u)
  (hstill : u.table.openRecords = a.table.openRecords.filter fun r => decide (i ≤ r.index))
include hp ha hstill

/-- The records below i have been passed over and none stands at i: the form is waste (R105). -/
theorem RetiresUpTo.of_waste (hnone : ∀ r ∈ a.table.openRecords, r.index ≠ i) :
    RetiresUpTo i a { u with divert := true } := by
  have above : u.table.openRecords = a.table.openRecords.filter fun r => decide (i < r.index) := by
    rw [hstill]
    refine List.filter_congr fun r hr => decide_eq_decide.mpr ?_
    have := hnone r hr
    omega
  have hdue := due_of_above above
  have hculled := hp.culled
  refine ⟨above, ?_, hp.frontier, fun ho r hr hi => accounted_below (ha ho) hstill hr hi⟩
  show u.setsCulled.value + u.setsDelivered.value = _
  rw [hp.delivered]
  omega

/-- The records below i have been passed over and the record of i is retired with them. -/
theorem RetiresUpTo.of_retires {t : Books} {r : SetRecord} {cause : Option VoidCause} {divert : Bool}
    (hR : Retires r cause { u with divert := divert } t) (hr : r ∈ u.table.openRecords) (hindex : r.index = i)
    (hculled : a.setsCulled.value + a.due i ≤ 99999999) (hdelivered : a.setsDelivered.value + a.due i ≤ 99999999) :
    RetiresUpTo i a t := by
  have above : t.table.openRecords = a.table.openRecords.filter fun x => decide (i < x.index) := by
    rw [hR.openRecords, hstill, List.filter_filter]
    refine List.filter_congr fun x _ => ?_
    rw [Bool.eq_iff_iff, Bool.and_eq_true, bne_iff_ne, decide_eq_true_iff, decide_eq_true_iff, hindex]
    omega
  have hdue : t.due i + 1 = u.due i := hR.due_succ hp.wf hr (Nat.le_of_eq hindex)
  rw [due_of_above above] at hdue
  have hpassed := hp.culled
  have hle := hp.due
  refine ⟨above, ?_, hR.frontier.trans hp.frontier, fun ho x hx hi => ?_⟩
  · have culled : t.setsCulled = if cause.isSome then u.setsCulled.raise 1 else u.setsCulled := hR.culled
    have delivered : t.setsDelivered = if cause.isSome then u.setsDelivered else u.setsDelivered.raise 1 := hR.delivered
    rw [culled, delivered, hp.delivered]
    split
    · rw [Counter.raise_value (by omega)]
      omega
    · rw [Counter.raise_value (by omega)]
      omega
  · have hne : r.index ≠ x.index := by omega
    exact (accounted_below (ha ho) hstill hx hi).of_grows hR.grows (fun k => ho.ownEntry_lt (hp.subset r hr))
      fun k => ho.ownEntry_ne hx (hp.subset r hr) hne

end

theorem waste_books (s : State) : (waste s).books = { s.books with divert := true } := by
  simp only [waste, endWrite_books, setDivert_books]
  rfl

theorem waste_divert (s : State) : (waste s).gate.divert = true := rfl

section
variable {s : State} {i : Nat} (hwf : s.table.wf = true)
  (hculled : s.books.setsCulled.value + s.books.due i ≤ 99999999)
include hwf hculled

theorem gateForm_passOver_waste (hnone : s.table.openAt i = none) :
    RetiresUpTo i s.books (gateForm i (passOver i s)).books ∧ (gateForm i (passOver i s)).gate.divert = true := by
  obtain ⟨hp, ha⟩ := passOver_passing hwf hculled
  have hstill := passOver_openRecords hwf i
  rw [gateForm_waste ((passOver_openAt hwf hp.wf).trans hnone), waste_books]
  refine ⟨RetiresUpTo.of_waste hp ha hstill fun r hr hi => ?_, waste_divert _⟩
  simp [(SetTable.openAt_eq_some_iff hwf).mpr ⟨hr, hi⟩] at hnone

theorem gateForm_passOver_retires (hdelivered : s.books.setsDelivered.value + s.books.due i ≤ 99999999)
    {r : SetRecord} (hsome : s.table.openAt i = some r) :
    RetiresUpTo i s.books (gateForm i (passOver i s)).books
      ∧ ((gateForm i (passOver i s)).jobState.inRun = true → (gateForm i (passOver i s)).gate.divert
          = (cullCause (s.tracker.gate.state == .skewed) s.policy.unverified r).isSome) := by
  obtain ⟨hp, ha⟩ := passOver_passing hwf hculled
  have hstill := passOver_openRecords hwf i
  have hopen := (passOver_openAt hwf hp.wf).trans hsome
  rw [gateForm_retires hopen]
  generalize passOver i s = u at hp ha hstill hopen ⊢
  obtain ⟨hr, hindex⟩ := (SetTable.openAt_eq_some_iff hp.wf).mp hopen
  generalize hc : cullCause (u.tracker.gate.state == .skewed) u.policy.unverified r = cause
  have hR : Retires r cause { u.books with divert := cause.isSome }
      (retire r cause (setDivert cause.isSome u)).books := retire_retires (s := setDivert cause.isSome u) hp.wf hr cause
  refine ⟨.of_retires hp ha hstill hR hr hindex hculled hdelivered, fun hrun => ?_⟩
  obtain ⟨hrun', -, hdivert⟩ := hR.run hrun
  obtain ⟨-, htracker⟩ := hp.run hrun'
  have tracker : u.tracker = s.tracker := htracker
  have policy : u.policy = s.policy := congrArg JobDef.policy hp.job
  rw [← tracker, ← policy, hc]
  exact hdivert

end

/-! ### The cue (R1, R2, R4) -/

theorem Station.counted_state (x : Station) : x.counted.state = x.state := by
  simp only [Station.counted]
  split <;> rfl

theorem gateCue_of_carries {i : Nat} {s : State} (h : CueCarries .gate i s) :
    gateCue (openJournal s) = gateForm i (passOver i (countCue .gate (openJournal s))) := by
  have hjob : (openJournal s).inJob .gate = true := h.inJob
  have hindex : (openJournal s).tracker.gate.cueIndex = Int.ofNat i := h.cueIndex_eq
  rw [gateCue, if_pos hjob, hindex]

theorem gateCue_becomes {s t : State} (hlive : s.live = true) (ht : gateCue (openJournal s) = t) :
    Becomes .gateCue s t := ht ▸ becomes_of_onEvent hlive rfl

/-- A gate cue of index i retires every OPEN record up to i, and DIVERT follows the form of i. -/
theorem gateCue_retires {i : Nat} {s : State} (h : CueCarries .gate i s) (hwf : s.table.wf = true)
    (hculled : s.books.setsCulled.value + s.books.due i ≤ 99999999)
    (hdelivered : s.books.setsDelivered.value + s.books.due i ≤ 99999999) :
    ∃ t, exec .gateCue s = .next t ∧ RetiresUpTo i s.books t.books ∧ (s.table.openAt i = none → t.gate.divert = true)
      ∧ ∀ r, s.table.openAt i = some r → t.jobState.inRun = true →
        t.gate.divert = (cullCause (s.tracker.gate.state == .skewed) s.policy.unverified r).isSome := by
  obtain ⟨hlive, -⟩ := id h
  have become := gateCue_becomes hlive (gateCue_of_carries h)
  have gate : (countCue .gate (openJournal s)).tracker.gate.state = s.tracker.gate.state := Station.counted_state _
  have policy : (countCue .gate (openJournal s)).policy = s.policy := rfl
  -- The account the cue starts from is that of s, but for the cue counted at the gate.
  have counted (b : Books) (hb : RetiresUpTo i (countCue .gate (openJournal s)).books b) : RetiresUpTo i s.books b :=
    ⟨hb.openRecords, hb.counted, hb.frontier, hb.accounted⟩
  cases hopen : s.table.openAt i with
  | none =>
    obtain ⟨hretires, hdivert⟩ := gateForm_passOver_waste (s := countCue .gate (openJournal s)) hwf hculled hopen
    generalize gateForm i (passOver i (countCue .gate (openJournal s))) = w at become hretires hdivert
    exact ⟨transmit w, become, counted _ hretires, fun _ => hdivert, fun r hr => by cases hr⟩
  | some r =>
    obtain ⟨hretires, hdivert⟩ :=
      gateForm_passOver_retires (s := countCue .gate (openJournal s)) hwf hculled hdelivered hopen
    rw [gate, policy] at hdivert
    generalize gateForm i (passOver i (countCue .gate (openJournal s))) = w at become hretires hdivert
    refine ⟨transmit w, become, counted _ hretires, fun hnone => absurd hnone (Option.some_ne_none r), fun x hx => ?_⟩
    rw [← Option.some.inj hx]
    exact hdivert

theorem State.books_due (s : State) (i : Nat) :
    (s.table.records.filter fun r => r.state == .opened && decide (r.index ≤ i)).length = s.books.due i := by
  have opened : s.books.due i = s.table.openRecords.countP fun r => decide (r.index ≤ i) := rfl
  rw [opened, SetTable.openRecords_eq, List.countP_filter, List.countP_eq_length_filter]
  simp only [Bool.and_comm]

/-- A cue with nothing to retire changes the waste count, DIVERT and its own station's count alone (R2, R105). -/
theorem gateCue_wastes {i : Int} {s : State} (h : CueCarries .gate i s)
    (hbelow : ∀ r ∈ s.table.records, r.state = .opened → i ≤ r.index)
    (hnone : ∀ n : Nat, i = n → s.table.openAt n = none) :
    gateCue (openJournal s) = waste { openJournal s with tracker := s.cued .gate } := by
  cases i with
  | ofNat n =>
    have above : ∀ r ∈ s.table.openRecords, n ≤ r.index := fun r hr => by
      obtain ⟨hrecord, hopen⟩ := SetTable.mem_openRecords.mp hr
      exact Int.ofNat_le.mp (hbelow r hrecord hopen)
    have stands := passOver_of_none_below (s := countCue .gate (openJournal s)) above
    have absent : (countCue .gate (openJournal s)).table.openAt n = none := hnone n rfl
    rw [gateCue_of_carries h, stands, gateForm_waste absent, h.countCue_eq]
  | negSucc n =>
    have hjob : (openJournal s).inJob .gate = true := h.inJob
    have hindex : (openJournal s).tracker.gate.cueIndex = .negSucc n := h.cueIndex_eq
    rw [gateCue, if_pos hjob, hindex, h.countCue_eq]

theorem gateCue_held {s : State} (hrun : s.jobState.inRun = true) (htop : 4294967295 ≤ s.tracker.gate.count) :
    gateCue (openJournal s) = waste (openJournal s) := by
  have hjob : (openJournal s).inJob .gate = true := hrun
  have hheld : (openJournal s).tracker.gate.held = true := decide_eq_true htop
  have hindex : (openJournal s).tracker.gate.cueIndex = .negSucc 0 := if_pos hheld
  rw [gateCue, if_pos hjob, hindex, countCue_of_held (x := .gate) hheld]

/-- Settles O42: with nothing to retire the cue is waste; otherwise each OPEN record below its index is taken in turn by
a retirement that takes that record alone, accounts for it and keeps the account of those before it. -/
theorem gateCueRetiresUpToItsIndex : Obligations.GateCueRetiresUpToItsIndex := by
  refine ⟨fun s hlive hrun => ⟨fun i hcue hbelow hnone => gateCue_becomes hlive (gateCue_wastes hcue hbelow hnone),
    fun htop => gateCue_becomes hlive (gateCue_held hrun htop)⟩, fun i s hcue hring => ?_⟩
  obtain ⟨hwf, -⟩ := hring
  simp only [State.books_due]
  intro hculled hdelivered
  obtain ⟨t, hexec, hretires, hwaste, hform⟩ := gateCue_retires hcue hwf hculled hdelivered
  refine ⟨t, hexec, ?opened, hretires.counted, hretires.frontier, hwaste, hform, fun hledger r hr hopen hi => ?account⟩
  case opened =>
    have opened := hretires.openRecords
    simp only [State.books, SetTable.openRecords_eq, List.filter_filter] at opened
    simpa only [Bool.and_comm] using opened
  case account =>
    exact hretires.accounted (owned_of_ledger hledger) r (SetTable.mem_openRecords.mpr ⟨hr, hopen⟩) hi

end Sys2Proof.Machine

/-! CLOSE (R164): a supervisor's request at the link, what the default definition makes of the channels, and the whole
next state of the one write. -/

namespace Sys2Proof.Machine
open Sys2Proof

/-! ### A supervisor's request -/

/-- With KEY active a supervisor's request goes to its owner like any other (R186). -/
theorem takeRequest_keyed {k : RequestKind} {pl : List Byte} (tag : Byte) {s : State} (hf : formatOk k pl = true)
    (hkey : s.key = true) : takeRequest ⟨k.code, tag, pl⟩ s = answer k pl s := by
  simp [takeRequest, hf, hkey]

/-- A request that arrives with KEY active: its answer is that of its owner, and what the owner leaves is the next state
but for the reply and the receiver, which hunts again. -/
theorem answers_of_answer_keyed {k : RequestKind} {pl out : List Byte} (tag : Byte) {s t : State} (hs : s.ready = true)
    (hkey : s.key = true) (hf : formatOk k pl = true)
    (ha : answer k pl s.atOwner = ({ t with rxControl := .hunting }, out)) :
    Answers (Instr.ofRequest k tag pl) s t (replyTo k tag out) := by
  have keyed : s.atOwner.key = true := hkey
  rw [Answers, exec_ofRequest]
  exact onRequest_ready (s' := { t with rxControl := .hunting }) hs ((takeRequest_keyed tag hf keyed).trans ha) rfl

/-! ### What CLOSE leaves -/

/-- R66 under a definition that engages no ply: an IDLE channel is DISENGAGED, any other is as it was. -/
theorem refreshChannels_of_none_engaged {s : State} (h : ∀ p, s.engaged p = false) :
    refreshChannels s = { s with
      heads := PerPly.ofFn fun p =>
        if (s.heads.get p).state = .idle then { s.heads.get p with state := .disengaged } else s.heads.get p } := by
  refine congrArg (fun f => { s with heads := PerPly.ofFn f }) (funext fun p => ?_)
  rw [h p]
  rcases s.heads.get p with ⟨state⟩
  cases state <;> rfl

theorem JobDef.default_engages_none (p : Ply) : JobDef.default.geometry.engaged.get p = false :=
  PerPly.get_const false p

/-- CLOSE is one accounting write and one STATE report; after it the definition engages no ply (R66, R164). -/
theorem closeJob_eq (s : State) : closeJob s = { s with
    acct := s.acct.closed.inState .idle none
    journal := s.acct.closed.inState .idle none :: s.journal
    link := s.link.addReport (stateReport .idle s.jobState s.control.holds)
    heads := PerPly.ofFn fun p =>
      if (s.heads.get p).state = .idle then { s.heads.get p with state := .disengaged } else s.heads.get p } :=
  refreshChannels_of_none_engaged JobDef.default_engages_none

/-! ### What the owner answers -/

theorem State.drained_iff (s : State) : s.drained = true ↔
    s.acct.log.records = [] ∧ s.acct.manifests = [] ∧ s.acct.rows = [] ∧ s.acct.register = [] := by
  simp only [State.drained, Bool.and_eq_true, List.isEmpty_iff]
  exact ⟨fun ⟨⟨⟨hlog, hregister⟩, hmanifests⟩, hrows⟩ => ⟨hlog, hmanifests, hrows, hregister⟩,
    fun ⟨hlog, hmanifests, hrows, hregister⟩ => ⟨⟨⟨hlog, hregister⟩, hmanifests⟩, hrows⟩⟩

section
variable {s : State}

theorem answerClose_refuses (hc : s.jobState ≠ .complete) (ha : s.jobState ≠ .aborted) :
    answerClose s = refuse .state s :=
  if_neg (not_or.mpr ⟨hc, ha⟩)

theorem answerClose_of_ended (h : s.jobState = .complete ∨ s.jobState = .aborted) :
    answerClose s = if s.drained then okWith [] (closeJob s) else refuseNotDrained s :=
  if_pos h

theorem answerClose_not_drained (h : s.jobState = .complete ∨ s.jobState = .aborted)
    (hleft : s.acct.log.records ≠ [] ∨ s.acct.manifests ≠ [] ∨ s.acct.rows ≠ [] ∨ s.acct.register ≠ []) :
    answerClose s = refuseNotDrained s := by
  have undrained : ¬ s.drained = true := fun hdrained => by
    obtain ⟨hlog, hmanifests, hrows, hregister⟩ := s.drained_iff.mp hdrained
    rcases hleft with h | h | h | h
    · exact h hlog
    · exact h hmanifests
    · exact h hrows
    · exact h hregister
  rw [answerClose_of_ended h, if_neg undrained]

theorem answerClose_closes (h : s.jobState = .complete ∨ s.jobState = .aborted) (hlog : s.acct.log.records = [])
    (hmanifests : s.acct.manifests = []) (hrows : s.acct.rows = []) (hregister : s.acct.register = []) :
    answerClose s = okWith [] (closeJob s) := by
  rw [answerClose_of_ended h, if_pos (s.drained_iff.mpr ⟨hlog, hmanifests, hrows, hregister⟩)]

end

/-- Settles O52: the three outcomes of R164 are the three branches of the owner, and the accepted one is the write of
`closeJob_eq`. -/
theorem closeReturnsThePartToIdle : Obligations.CloseReturnsThePartToIdle := by
  refine fun tag s hs hkey => ⟨fun hc ha => ?state, fun hended => ⟨fun hleft => ?undrained,
    fun hlog hmanifests hrows hregister => ?closes⟩⟩
  case state =>
    exact answers_of_answer_keyed (k := .close) (t := openJournal s) tag hs hkey rfl
      (answerClose_refuses (s := s.atOwner) hc ha)
  case undrained =>
    exact answers_of_answer_keyed (k := .close) (t := openJournal s) tag hs hkey rfl
      (answerClose_not_drained (s := s.atOwner) hended hleft)
  case closes =>
    refine answers_of_answer_keyed (k := .close) tag hs hkey rfl
      ((answerClose_closes (s := s.atOwner) hended hlog hmanifests hrows hregister).trans ?_)
    rw [closeJob_eq]
    rfl

end Sys2Proof.Machine

/-! STOP_CLEAR (R166, R167): the causes a payload names, which of the latched causes a pass over all of them leaves, and
the whole next state with its reply. -/

namespace Sys2Proof.Machine
open Sys2Proof

/-! ### The causes a payload names (Table 88) -/

theorem bitOf_toNat (b : Byte) (i : Nat) : bitOf b.toNat i = b.getLsbD i := by
  rw [bitOf, BitVec.getLsbD, Nat.testBit_eq_decide_div_mod_eq, Bool.beq_eq_decide_eq]

theorem StopSet.ofPayload_reserved {b0 b1 b2 : Byte} (h : 64 ≤ b0.toNat ∨ 64 ≤ b1.toNat) :
    StopSet.ofPayload [b0, b1, b2] = none :=
  if_neg fun hlt : b0.toNat < 64 ∧ b1.toNat < 64 => by omega

/-- The bit of each cause in a payload with no reserved bit set. -/
theorem StopSet.ofPayload_names {b0 b1 : Byte} (h0 : b0.toNat < 64) (h1 : b1.toNat < 64) (b2 : Byte) :
    ∃ named, StopSet.ofPayload [b0, b1, b2] = some named
      ∧ (∀ p, named.has (.headFault p) = b0.getLsbD (p.number - 1))
      ∧ (∀ p, named.has (.skew p) = b1.getLsbD (p.number - 1))
      ∧ ∀ x : StopCause, 13 ≤ x.code → named.has x = b2.getLsbD (x.code - 13) := by
  refine ⟨_, if_pos (⟨h0, h1⟩ : b0.toNat < 64 ∧ b1.toNat < 64), fun p => ?_, fun p => ?_, fun x hx => ?_⟩
  · exact (PerPly.get_ofFn _ p).trans (bitOf_toNat b0 _)
  · exact (PerPly.get_ofFn _ p).trans (bitOf_toNat b1 _)
  · cases x with
    | headFault p => cases p <;> simp [StopCause.code, Ply.number] at hx
    | skew p => cases p <;> simp [StopCause.code, Ply.number] at hx
    | _ => exact bitOf_toNat b2 _

/-! ### A pass over all causes -/

@[simp] theorem StopCause.mem_all (c : StopCause) : c ∈ StopCause.all := by
  cases c <;> simp [StopCause.all]

/-- A pass that puts the cause c at `v c` where `p c` holds: a cause in the pass with `p` is at `v`, any other as it
was. -/
theorem StopSet.has_foldl_put (p v : StopCause → Bool) (cs : List StopCause) (k : StopSet) (d : StopCause) :
    (cs.foldl (fun k c => if p c then k.put c (v c) else k) k).has d = if d ∈ cs ∧ p d then v d else k.has d := by
  induction cs generalizing k with
  | nil => simp
  | cons c cs ih =>
    rw [List.foldl_cons, ih]
    by_cases hd : d = c
    · subst hd
      by_cases hp : p d = true <;> simp [hp, StopSet.has_put]
    · by_cases hp : p c = true <;> simp [hp, hd, StopSet.has_put]

theorem foldl_unlatch_eq (p : StopCause → Bool) (cs : List StopCause) (s : State) :
    cs.foldl (fun t c => if p c then unlatch c t else t) s = { s with control := { s.control with
      stops := cs.foldl (fun k c => if p c then k.put c false else k) s.control.stops } } := by
  induction cs generalizing s with
  | nil => rfl
  | cons c cs ih =>
    rw [List.foldl_cons, List.foldl_cons, ih]
    by_cases hp : p c = true
    · rw [if_pos hp, if_pos hp]
      rfl
    · rw [if_neg hp, if_neg hp]

/-! ### What STOP_CLEAR leaves -/

/-- The latched causes that STOP_CLEAR leaves: the named ones whose condition has ended are taken out (R167). -/
def State.stopsLeft (s : State) (named : StopSet) : StopSet :=
  StopCause.all.foldl (fun k c => if named.has c && s.causeEnded c then k.put c false else k) s.control.stops

theorem clearStops_eq (named : StopSet) (s : State) :
    clearStops named s = { s with control := { s.control with stops := s.stopsLeft named } } :=
  foldl_unlatch_eq (fun c => named.has c && s.causeEnded c) StopCause.all s

theorem State.stopsLeft_has (s : State) (named : StopSet) (c : StopCause) :
    (s.stopsLeft named).has c = (s.control.stops.has c && !(named.has c && s.causeEnded c)) := by
  rw [State.stopsLeft,
    StopSet.has_foldl_put (fun c => named.has c && s.causeEnded c) (fun _ => false) StopCause.all s.control.stops c]
  cases hclear : named.has c && s.causeEnded c <;> simp

theorem stayed_has (named latched : StopSet) (c : StopCause) :
    (stayed named latched).has c = (named.has c && latched.has c) := by
  simpa [stayed] using
    StopSet.has_foldl_put (fun _ => true) (fun c => named.has c && latched.has c) StopCause.all StopSet.empty c

/-- The model's test of Table 71 is the statements'. -/
theorem State.causeEnded_eq_table71 (s : State) (c : StopCause) : s.causeEnded c = Table71 s c := by
  cases c <;> simp only [State.causeEnded, Table71, bne, Bool.beq_eq_decide_eq, decide_not]

/-! ### STOP_CLEAR at the link -/

theorem answerStopClear_of_named {pl : List Byte} {named : StopSet} (h : StopSet.ofPayload pl = some named)
    (s : State) : answerStopClear pl s =
      ({ s with control := { s.control with stops := s.stopsLeft named } },
        (if (stayed named (s.stopsLeft named)).any then Status.causePersists.byte else Status.ok.byte)
          :: ((s.stopsLeft named).bytes ++ (stayed named (s.stopsLeft named)).bytes)) := by
  simp only [answerStopClear, h, clearStops_eq]

theorem answerStopClear_range {pl : List Byte} (h : StopSet.ofPayload pl = none) (s : State) :
    answerStopClear pl s = refuse .range s := by
  simp only [answerStopClear, h]

theorem stopClear_refuses (tag : Byte) {b0 b1 b2 : Byte} {s : State} (hs : s.ready = true)
    (h : 64 ≤ b0.toNat ∨ 64 ≤ b1.toNat) :
    AnswersOnly (.stopClear tag [b0, b1, b2]) s (replyTo .stopClear tag [0x05]) :=
  answersOnly_of_answer (k := .stopClear) tag hs rfl rfl (answerStopClear_range (StopSet.ofPayload_reserved h) _)

theorem stopClear_clears (tag : Byte) {b0 b1 b2 : Byte} {s : State} (hs : s.ready = true) {named : StopSet}
    (h : StopSet.ofPayload [b0, b1, b2] = some named) :
    Answers (.stopClear tag [b0, b1, b2]) s
      { openJournal s with control := { s.control with stops := s.stopsLeft named } }
      (replyTo .stopClear tag ((if (stayed named (s.stopsLeft named)).any then 0x0B else 0x00)
        :: ((s.stopsLeft named).bytes ++ (stayed named (s.stopsLeft named)).bytes))) :=
  answers_of_answer (k := .stopClear) tag hs rfl rfl (answerStopClear_of_named h s.atOwner)

/-- Settles O56: the payload names its causes bit by bit, one pass clears those of them that have ended, and the reply
tells of the named ones that stay. -/
theorem stopClearClearsWhatHasEnded : Obligations.StopClearClearsWhatHasEnded := by
  intro tag b0 b1 b2 s hs
  refine ⟨stopClear_refuses tag hs, fun h0 h1 => ?_⟩
  obtain ⟨names, hread, hfault, hskew, hother⟩ := StopSet.ofPayload_names h0 h1 b2
  intro named
  have hnamed (x : StopCause) : names.has x = named x := by
    cases x with
    | headFault p => exact hfault p
    | skew p => exact hskew p
    | _ => exact hother _ (by decide)
  refine ⟨s.stopsLeft names, stayed names (s.stopsLeft names), fun x => ?left, fun x => ?still,
    stopClear_clears tag hs hread⟩
  case left => rw [State.stopsLeft_has, State.causeEnded_eq_table71, hnamed]
  case still => rw [stayed_has, hnamed]

end Sys2Proof.Machine

/-! STATUS (R193): the reply as a row of blocks, where a block of such a row stands, and the answer at the link. -/

namespace Sys2Proof.Machine
open Sys2Proof

/-! ### Where a block stands in a payload -/

/-- In a payload that is a row of blocks, a block stands behind all the bytes of the blocks before it. -/
theorem fieldAt_flatten {blocks : List (List Byte)} {b : List Byte} {k : Nat} (hb : blocks[k]? = some b) :
    fieldAt blocks.flatten ((blocks.map List.length).take k).sum b.length = b := by
  obtain ⟨hk, rfl⟩ := List.getElem?_eq_some_iff.mp hb
  have before : ((blocks.map List.length).take k).sum = (blocks.take k).flatten.length := by
    rw [List.length_flatten, List.map_take]
  have parts : blocks.flatten = (blocks.take k).flatten ++ (blocks[k] ++ (blocks.drop (k + 1)).flatten) := by
    rw [← List.flatten_cons, ← List.drop_eq_getElem_cons hk, ← List.flatten_append, List.take_append_drop]
  rw [fieldAt, before, parts, List.drop_left, List.take_left]

/-- Where the blocks are those of a list and all w bytes long, block k stands at w * k. -/
theorem fieldAt_flatten_map {α : Type} {f : α → List Byte} {w : Nat} (hw : ∀ x, (f x).length = w) {l : List α}
    {k : Nat} {x : α} (hx : l[k]? = some x) : fieldAt (l.map f).flatten (w * k) w = f x := by
  have hk : k < l.length := (List.getElem?_eq_some_iff.mp hx).1
  have lengths : (l.map f).map List.length = List.replicate l.length w := by
    simp [List.map_eq_replicate_iff, hw]
  have block : (l.map f)[k]? = some (f x) := by simp [hx]
  have place := fieldAt_flatten block
  rwa [lengths, List.take_replicate, List.sum_replicate_nat, Nat.min_eq_left (Nat.le_of_lt hk), Nat.mul_comm,
    hw] at place

/-- A field that lies within a block of the payload, read inside that block. -/
theorem fieldAt_within (pl : List Byte) {a m d n : Nat} (h : d + n ≤ m) :
    fieldAt pl (a + d) n = fieldAt (fieldAt pl a m) d n := by
  simp only [fieldAt, List.drop_take, List.drop_drop, List.take_take]
  rw [Nat.min_eq_left (by omega)]

/-! ### The blocks of the STATUS reply (Table 96) -/

theorem State.savedByte_eq (s : State) :
    s.savedByte = match (if s.jobState = .hold then s.acct.header.savedReturn else none) with
      | some j => byte j.code
      | none => 0xFF := by
  unfold State.savedByte
  split
  · cases s.acct.header.savedReturn <;> rfl
  · rfl

theorem State.bundleBytes_eq (s : State) :
    s.bundleBytes = be32 ((s.acct.bundle.map OpenBundle.number).getD 0)
      ++ be16 ((s.acct.bundle.map OpenBundle.sets).getD 0) := by
  unfold State.bundleBytes
  cases s.acct.bundle <;> rfl

@[simp] theorem State.length_bundleBytes (s : State) : s.bundleBytes.length = 6 := by
  rw [State.bundleBytes_eq]
  rfl

/-- The STATUS reply block by block: the status byte, then the fields of Table 96 in their order. -/
def State.statusBlocks (s : State) : List (List Byte) :=
  [[Status.ok.byte], [s.jobByte], [s.savedByte], [s.control.holds.byte], s.control.stops.bytes, [flagByte s.stopLine],
    [byte s.part.lastReset.code],
    [byte (bitsByte [s.lines.conditioned.prun, s.lines.conditioned.key, s.lines.conditioned.wbrk])],
    [plySetByte s.lines.conditioned.spl],
    (StationId.all.map fun i => (s.tracker.get i).bytes).flatten,
    be16 s.table.fill, be40 s.table.frontier,
    (Ply.all.map fun p => (s.heads.get p).bytes).flatten,
    [byte s.reader.state.code, byte s.reader.queue.length, byte s.reader.readFail, byte s.reader.code],
    [byte s.gate.spoilRun, flagByte s.gate.divert],
    s.bundleBytes,
    [byte s.acct.manifests.length, flagByte s.acct.log.low],
    [byte s.link.queue.length, byte s.link.reports.length, flagByte s.link.reportsLost]]

theorem State.statusBlocks_flatten (s : State) : s.statusBlocks.flatten = Status.ok.byte :: s.statusFields := by
  have heads : s.heads.toList.map Channel.bytes = Ply.all.map fun p => (s.heads.get p).bytes := rfl
  have spl : byte (bitsByte s.lines.conditioned.spl.toList) = plySetByte s.lines.conditioned.spl := rfl
  simp only [State.statusBlocks, State.statusFields, State.lineBytes, heads, spl, List.flatten_cons, List.flatten_nil,
    List.append_assoc, List.cons_append, List.nil_append, List.append_nil]

/-- The widths of the blocks of the STATUS reply (Table 96). -/
def statusWidths : List Nat := [1, 1, 1, 1, 3, 1, 1, 1, 1, 54, 2, 5, 24, 4, 2, 6, 2, 3]

theorem State.statusBlocks_widths (s : State) : s.statusBlocks.map List.length = statusWidths := by
  simp only [State.statusBlocks, List.map_cons, s.length_bundleBytes]
  rfl

theorem State.statusBlocks_length (s : State) : s.statusBlocks.flatten.length = 113 := by
  rw [List.length_flatten, s.statusBlocks_widths]
  rfl

/-- Block k of the STATUS reply, at the offset the widths before it add up to. -/
theorem State.status_block (s : State) {b : List Byte} {offset n : Nat} (k : Nat) (hb : s.statusBlocks[k]? = some b)
    (ho : (statusWidths.take k).sum = offset) (hn : statusWidths[k]? = some n) :
    fieldAt s.statusBlocks.flatten offset n = b := by
  have width : statusWidths[k]? = some b.length := by rw [← s.statusBlocks_widths, List.getElem?_map, hb]; rfl
  obtain rfl : n = b.length := Option.some.inj (hn.symm.trans width)
  rw [← ho, ← s.statusBlocks_widths]
  exact fieldAt_flatten hb

theorem State.status_station (s : State) {k : Nat} {i : StationId} (hi : StationId.all[k]? = some i) :
    fieldAt s.statusBlocks.flatten (11 + 6 * k) 6 = (s.tracker.get i).bytes := by
  have hk : k < 9 := (List.getElem?_eq_some_iff.mp hi).1
  have stations := s.status_block (offset := 11) (n := 54) 9 rfl rfl rfl
  rw [fieldAt_within _ (m := 54) (by omega), stations]
  exact fieldAt_flatten_map (f := fun i => (s.tracker.get i).bytes) (fun _ => rfl) hi

theorem State.status_head (s : State) (p : Ply) :
    fieldAt s.statusBlocks.flatten (68 + 4 * p.number) 4 = (s.heads.get p).bytes := by
  have place : Ply.all[p.number - 1]? = some p ∧ 68 + 4 * p.number = 72 + 4 * (p.number - 1) ∧ p.number ≤ 6 := by
    cases p <;> decide
  obtain ⟨hp, offset, top⟩ := place
  have heads := s.status_block (offset := 72) (n := 24) 12 rfl rfl rfl
  rw [offset, fieldAt_within _ (m := 24) (by omega), heads]
  exact fieldAt_flatten_map (f := fun p => (s.heads.get p).bytes) (fun _ => rfl) hp

/-! ### STATUS at the link -/

theorem status_answers (tag : Byte) {s : State} (hs : s.ready = true) :
    Answers (.status tag []) s { openJournal s with link := { s.link with reportsLost := false } }
      (replyTo .status tag s.statusBlocks.flatten) := by
  refine answers_of_answer (k := .status) tag hs rfl rfl ?_
  rw [State.statusBlocks_flatten]
  rfl

/-- Settles O23: the owner's answer is the row of blocks of Table 96, and each field is found at the sum of the lengths
of the blocks before it; a ready link's queue is empty, hence the 0 at offset 110. -/
theorem statusShowsEveryBlock : Obligations.StatusShowsEveryBlock := by
  intro tag s hs
  obtain ⟨-, hqueue, -, -⟩ := s.ready_iff.mp hs
  refine ⟨s.statusBlocks.flatten, status_answers tag hs, s.statusBlocks_length, s.status_block 0 rfl rfl rfl,
    s.status_block 1 rfl rfl rfl, ?saved, s.status_block 3 rfl rfl rfl, s.status_block 4 rfl rfl rfl,
    s.status_block 5 rfl rfl rfl, s.status_block 6 rfl rfl rfl, s.status_block 7 rfl rfl rfl,
    s.status_block 8 rfl rfl rfl, fun _ _ => s.status_station, s.status_block 10 rfl rfl rfl,
    s.status_block 11 rfl rfl rfl, s.status_head, s.status_block 13 rfl rfl rfl, s.status_block 14 rfl rfl rfl,
    ?bundle, s.status_block 16 rfl rfl rfl, ?link⟩
  case saved =>
    have saved := s.status_block (offset := 2) (n := 1) 2 rfl rfl rfl
    rw [s.savedByte_eq] at saved
    exact saved
  case bundle =>
    rw [← s.bundleBytes_eq]
    exact s.status_block 15 rfl rfl rfl
  case link =>
    have queued : byte s.link.queue.length = 0 := by rw [hqueue]; rfl
    rw [← queued]
    exact s.status_block 17 rfl rfl rfl

end Sys2Proof.Machine
